-- ==== Sys2Proof/Word.lean ====
section
/-! DEFINITION. The widths and numberings of the ML416 (00_scope.md, "Conventions"; R152). -/

namespace Sys2Proof

/-- One byte of a serial line (R150). -/
abbrev Byte := BitVec 8

/-- A two-byte field: the handover word, the CHECK field (R151, R152). -/
abbrev Word16 := BitVec 16

/-- A four-byte field: frame counter and activity counter values, which wrap (R85, R152, R169). -/
abbrev Word32 := BitVec 32

/-- Lamps are numbered 0 to 4095 (R1). -/
abbrev Lamp := Fin 4096

/-- Zones are numbered 0 to 63. -/
abbrev ZoneNo := Fin 64

/-- Driver strings are numbered 0 to 15 (R1). -/
abbrev StringNo := Fin 16

/-- Watch windows are numbered 0 to 3 (R140). -/
abbrev WindowNo := Fin 4

/-- Activity counters are numbered 0 to 3 (R168). -/
abbrev CounterNo := Fin 4

end Sys2Proof
end

