-- ==== Sys2Proof/Syntax.lean ====
section
/-! DEFINITION. The commands of the ML416: one constructor per row of spec/opcode_table.json, in the table's order.
A row is an event at the part, whole and indivisible (95_what_each_step_holds.md): something its lines, its pins, its
timers or its strings bring about, or the executor's taking of one command. -/

namespace Sys2Proof

/-- The three master ports (00_scope.md). T1 and T2 have the telemetry role, D the desk role. -/
inductive Port where
  | t1 | t2 | d
deriving DecidableEq, Repr

/-- Flipped bits landing in a stored lamp record between two events: an input from outside the part (R3, R131, R132).
`double` says whether the record then stands two flips away from its check code, or one. -/
structure Upset where
  lamp   : Lamp
  double : Bool
deriving DecidableEq, Repr

/-- What a module sensed of one lamp over a frame (R108): current in a sub-frame in which the lamp was driven, and
current in a sub-frame in which it was not. -/
structure Sensed where
  driven   : Bool
  undriven : Bool
deriving DecidableEq, Repr

/-- The rows of spec/opcode_table.json. A taking by the executor carries the command it takes: the port whose queue it
heads, its TAG and its PAYLOAD bytes, the CODE being the row's own (R151, R160). An event in which records are read
carries the upsets that landed since the event before it. -/
inductive Instr where
  /-- The reset pin is released, with the levels then on rate pin 1, rate pin 0 and the lamp-test input (asserted?). -/
  | powerUpReset (rate1 rate0 lampTest : Bool)
  /-- The bytes of a valid frame that have not yet been taken arrive, and with the last of them the frame is valid. -/
  | validFrameArrival (port : Port) (tag code : Byte) (payload : List Byte)
  /-- A byte arrives, with a framing error or without, by which the receiver discards the frame in progress. -/
  | frameDiscard (port : Port) (byte : Byte) (framingError : Bool)
  | gapTimerExpiry (port : Port)
  | portReset (port : Port)
  | transmitReply (port : Port)
  | replySent (port : Port)
  | unknownCommand (port : Port) (tag code : Byte) (payload : List Byte)
  | writeAspects (port : Port) (tag : Byte) (payload : List Byte) (upsets : List Upset)
  | setAttributes (port : Port) (tag : Byte) (payload : List Byte) (upsets : List Upset)
  | forceLamp (port : Port) (tag : Byte) (payload : List Byte) (upsets : List Upset)
  | unforce (port : Port) (tag : Byte) (payload : List Byte) (upsets : List Upset)
  | readLamps (port : Port) (tag : Byte) (payload : List Byte) (upsets : List Upset)
  | defineZone (port : Port) (tag : Byte) (payload : List Byte)
  | disableZone (port : Port) (tag : Byte) (payload : List Byte)
  | claimZone (port : Port) (tag : Byte) (payload : List Byte)
  | releaseZone (port : Port) (tag : Byte) (payload : List Byte)
  | markCurrent (port : Port) (tag : Byte) (payload : List Byte)
  | readZone (port : Port) (tag : Byte) (payload : List Byte)
  | present (port : Port) (tag : Byte) (payload : List Byte)
  | setTimeout (port : Port) (tag : Byte) (payload : List Byte)
  | setAllowance (port : Port) (tag : Byte) (payload : List Byte)
  | readLink (port : Port) (tag : Byte) (payload : List Byte)
  | postHandover (port : Port) (tag : Byte) (payload : List Byte)
  | takeHandover (port : Port) (tag : Byte) (payload : List Byte)
  | silenceTimerExpiry (port : Port)
  | raiseAlarm (port : Port) (tag : Byte) (payload : List Byte) (upsets : List Upset)
  | clearAlarm (port : Port) (tag : Byte) (payload : List Byte) (upsets : List Upset)
  | acknowledge (port : Port) (tag : Byte) (payload : List Byte) (upsets : List Upset)
  | silenceHorn (port : Port) (tag : Byte) (payload : List Byte)
  | startScan (port : Port) (tag : Byte) (payload : List Byte) (upsets : List Upset)
  | stopScan (port : Port) (tag : Byte) (payload : List Byte)
  | setLevels (port : Port) (tag : Byte) (payload : List Byte)
  | setTiming (port : Port) (tag : Byte) (payload : List Byte)
  | holdBoard (port : Port) (tag : Byte) (payload : List Byte)
  | releaseHold (port : Port) (tag : Byte) (payload : List Byte)
  | holdLimitExpiry
  | lampTestStart (port : Port) (tag : Byte) (payload : List Byte)
  | lampTestStop (port : Port) (tag : Byte) (payload : List Byte)
  | lampTestInputAssertion
  | lampTestInputRelease
  | lampTestLimitExpiry
  | frameStart (upsets : List Upset)
  | subFrame
  | frameEnd
  /-- One string's answers: how many modules answered, and what was sensed of the string's lamps in rising order.
  A lamp beyond the end of the list drew no current. -/
  | stringFrameEnd (string : StringNo) (answering : Nat) (sensed : List Sensed) (upsets : List Upset)
  | setString (port : Port) (tag : Byte) (payload : List Byte) (upsets : List Upset)
  | setSupervision (port : Port) (tag : Byte) (payload : List Byte)
  | readStrings (port : Port) (tag : Byte) (payload : List Byte)
  | takeFailures (port : Port) (tag : Byte) (payload : List Byte)
  | readFault (port : Port) (tag : Byte) (payload : List Byte)
  | releaseFault (port : Port) (tag : Byte) (payload : List Byte)
  | setFaultMask (port : Port) (tag : Byte) (payload : List Byte)
  | setWindow (port : Port) (tag : Byte) (payload : List Byte)
  | readWatch (port : Port) (tag : Byte) (payload : List Byte)
  | releaseWatch (port : Port) (tag : Byte) (payload : List Byte)
  | setArbitration (port : Port) (tag : Byte) (payload : List Byte)
  | setRouting (port : Port) (tag : Byte) (payload : List Byte)
  | takeNotices (port : Port) (tag : Byte) (payload : List Byte)
  | setCounter (port : Port) (tag : Byte) (payload : List Byte)
  | readCounters (port : Port) (tag : Byte) (payload : List Byte)
  /-- A byte taken from the receive line, with a framing error or without. -/
  | byteTaken (port : Port) (byte : Byte) (framingError : Bool)
  | resetPinAsserted
  | lineReturnedToMark (port : Port)
deriving DecidableEq, Repr

end Sys2Proof
end

