-- ==== Sys2Proof/Decode.lean ====
section
/-! DEFINITION. The command a word of the table spells. spec/opcode_table.json gives no row any bits (every row's
"fields" is empty and none has "fixed"), so no word spells a command (log entry 1). The frames by which commands travel on
the lines are read by the receivers (Machine/Ports.lean) and by each command's own parser. -/

namespace Sys2Proof

/-- The command spelled by a word of `nbits` bits: none, as no row of the table has bits. -/
def decodeTableWord (_nbits _w : Nat) : Option Instr := none

end Sys2Proof
end

