-- ==== Sys2Proof/Config.lean ====
section
/-! DEFINITION. What the part fixes once and for all, and the free values: what the manual leaves open.
A free value is an opaque constant, so nothing can be proved of the value it has. -/

namespace Sys2Proof.Config

/-- The most payload bytes of a command frame, 0x48 (R151, R154). -/
def maxPayload : Nat := 72

/-- Places in each command queue and each reply queue (R155, R156). -/
def queueDepth : Nat := 8

/-- Places in the failure list (R123). -/
def failureDepth : Nat := 64

/-- SYNC of a command frame (9.2). -/
def commandSync : Byte := 0xA5

/-- SYNC of a reply frame (9.2). -/
def replySync : Byte := 0x5A

/-- Sub-frames of a frame (R106). -/
def subFrames : Nat := 16

/-- FREE VALUE. READ FAULT's kind byte while no kind is captured: R152 points a name field that may be none to the
code table, and the table gives fault kinds no code for none (log entry 6). -/
opaque faultKindNone : Byte

/-- FREE VALUE. Whether READ FAULT's place field, while no place is captured, is the absent lamp (two bytes 0xFF) or
the absent string number (one byte 0xFF): R136 and R152 do not say (log entry 7). -/
opaque faultPlaceNoneIsLamp : Bool

/-- FREE VALUE. READ WATCH's byte for a free capture (R146; log entry 8). -/
opaque captureFree : Byte

/-- FREE VALUE. READ WATCH's byte for a frozen capture (R146; log entry 8). -/
opaque captureFrozen : Byte

/-- FREE VALUE. READ WATCH's kind byte while the capture is free (R145, R152; log entry 6). -/
opaque watchKindNone : Byte

/-- FREE VALUE. READ WATCH's outcome byte while the capture is free (R145, R152; log entry 6). -/
opaque watchOutcomeNone : Byte

/-- FREE VALUE. SET STRING's reply byte for a count put in force (R110; log entry 9). -/
opaque stringInForce : Byte

/-- FREE VALUE. SET STRING's reply byte for a count left pending (R110; log entry 9). -/
opaque stringPending : Byte

/-- FREE VALUE. The order in which a frame start's reads meet the records: records of lower rank are read first. The
first argument is the frame counter, the second the lamp (R86, R135; log entry 10). -/
opaque readRank : Nat → Nat → Nat

end Sys2Proof.Config
end

