-- ==== Sys2Proof/Machine/State.lean ====
section
/-! DEFINITION. The state of the ML416 as plain data, block by block (00_scope.md, "Block overview"), its power-up
values, and the reasons a step could stop. -/

namespace Sys2Proof.Machine

/-- One thing for each of the ports T1, T2 and D. A set of ports is a `PerPort Bool`. -/
structure PerPort (α : Type) where
  t1 : α
  t2 : α
  d  : α
deriving DecidableEq, Repr

/-! ### Master ports (chapter 9) -/

/-- The rates the line-rate pins select (R150), in bit/s. -/
inductive LineRate where
  | r19200 | r38400 | r115200 | r230400
deriving DecidableEq, Repr

/-- The receiver's states (R153). -/
inductive RxPhase where
  | hunt | length | body | check
deriving DecidableEq, Repr

/-- A receiver (R153): its state, the bytes it holds after the SYNC, and whether its 10 ms gap timer is running. -/
structure Receiver where
  phase : RxPhase
  held  : List Byte
  gap   : Bool
deriving DecidableEq, Repr

/-- A command as its frame carries it (R151). -/
structure Command where
  tag     : Byte
  code    : Byte
  payload : List Byte
deriving DecidableEq, Repr

/-- The STATUS names (R162). -/
inductive Status where
  | done | queueFull | length | unknown | role | range | notRunning | silent
  | notOwner | held | owned | overlap | notAlarm | notHolder | blocked
deriving DecidableEq, Repr

/-- A reply as it is fixed when it is made (R151); ROOM and CHECK are filled in when its sending begins (R156). -/
structure Reply where
  tag     : Byte
  code    : Byte
  status  : Status
  payload : List Byte
deriving DecidableEq, Repr

/-- A master port: receiver, line break, command queue, reply queue, and the frame the transmitter is sending
(R153, R155 to R157). Queues have their oldest member first. -/
structure PortState where
  rx       : Receiver
  /-- Set from a port reset until the receive line returns to mark (R157). -/
  inBreak  : Bool
  commands : List Command
  replies  : List Reply
  /-- The reply frame being sent, or none while the transmitter is idle (R156). -/
  sending  : Option (List Byte)
deriving DecidableEq, Repr

/-- The arbitration modes (R158). -/
inductive ArbMode where
  | fair | priority
deriving DecidableEq, Repr

/-! ### The image store (chapter 1) -/

/-- The four aspects (R4). -/
inductive Aspect where
  | dark | lit | slow | fast
deriving DecidableEq, Repr

/-- The four alarm states (R62). -/
inductive AlarmState where
  | normal | new | standing | returned
deriving DecidableEq, Repr

/-- The horn classes (R5). -/
inductive HornClass where
  | quiet | sound
deriving DecidableEq, Repr

/-- The health states (R6). `opened` is OPEN. -/
inductive Health where
  | unknown | good | opened | stuck | unsupervised
deriving DecidableEq, Repr

/-- The four attributes of a lamp (R5). -/
structure Attributes where
  alarmCapable : Bool
  hornClass    : HornClass
  dimGroup     : Fin 8
  supervised   : Bool
deriving DecidableEq, Repr

/-- A resolved aspect and a sub-frame count, 0 to 16 (R7, R89). -/
structure Rendering where
  aspect : Aspect
  count  : Nat
deriving DecidableEq, Repr

/-- How a stored record stands to its check code (R3): it agrees, or one or two bits have flipped since it was
written. The fields of the record are those last written. -/
inductive Integrity where
  | clean | single | double
deriving DecidableEq, Repr

/-- One lamp record (1.2). -/
structure LampRecord where
  telemetry : Aspect
  override  : Option Aspect
  alarm     : AlarmState
  attrs     : Attributes
  health    : Health
  runCount  : Nat
  suspect   : Bool
  rendering : Rendering
  integrity : Integrity
deriving DecidableEq, Repr

/-! ### Zones, horn, links, handover (chapters 2 to 4) -/

/-- The stale treatments (R43). -/
inductive Treatment where
  | keep | dim | blink
deriving DecidableEq, Repr

/-- One zone record (2.1). -/
structure ZoneRecord where
  enabled   : Bool
  base      : Nat
  size      : Nat
  owner     : Option Port
  stale     : Bool
  treatment : Treatment
  summary   : Option Lamp
  unack     : Nat
  standing  : Nat
deriving DecidableEq, Repr

/-- The horn states (R74). -/
inductive Horn where
  | quiet | sounding
deriving DecidableEq, Repr

/-- The link states (R46). -/
inductive LinkState where
  | silent | live
deriving DecidableEq, Repr

/-- One link record (3.1). The silence timer is stopped, or runs; `some n` says that it was last started to run for
`n` units of 100 ms. -/
structure LinkRecord where
  state     : LinkState
  timer     : Option Nat
  timeout   : Nat
  allowance : Int
  saturated : Bool
deriving DecidableEq, Repr

/-- The states of the handover slot (R57). -/
inductive SlotState where
  | empty | posted | lapsed
deriving DecidableEq, Repr

/-- The handover slot (3.4). -/
structure Handover where
  state  : SlotState
  word   : Word16
  poster : Option Port
deriving DecidableEq, Repr

/-! ### Frame composer (chapter 5) -/

/-- The scan states (R82). -/
inductive ScanState where
  | dark | running
deriving DecidableEq, Repr

/-- Board level, floor level and the eight group levels (R91). -/
structure Levels where
  board  : Nat
  floor  : Nat
  groups : Vector Nat 8
deriving DecidableEq, Repr

/-- Frame period in ms, slow and fast flash periods in frames (R92). -/
structure Timing where
  period : Nat
  slow   : Nat
  fast   : Nat
deriving DecidableEq, Repr

/-- The board hold (R93). A HELD hold has its holder, its start frame, and a limit timer started for `limit` s. -/
inductive Hold where
  | free
  | held (holder : Port) (start : Word32) (limit : Nat)
deriving DecidableEq, Repr

/-- Where a lamp-test session came from (R98). -/
inductive TestSource where
  | pin | command
deriving DecidableEq, Repr

/-- The lamp-test session (R98). An ON session has its source and a limit timer started for `limit` s. -/
inductive Session where
  | off
  | on (source : TestSource) (limit : Nat)
deriving DecidableEq, Repr

/-! ### Scan engine and lamp supervisor (chapters 6 and 7) -/

/-- The string states (R105). -/
inductive StringState where
  | unused | intact | broken
deriving DecidableEq, Repr

/-- One string record (6.1). -/
structure StringRecord where
  count      : Nat
  pending    : Option Nat
  state      : StringState
  lastAnswer : Nat
deriving DecidableEq, Repr

/-- How far the frame in progress has come (R84, R106, R108): none, `n` of its sub-frames have been begun, or its
frame end has been taken and the strings listed have still to give their answers. -/
inductive FrameProgress where
  | none
  | driving (begun : Nat)
  | answering (left : List StringNo)
deriving DecidableEq, Repr

/-- The kinds of a failure list entry (7.1). -/
inductive FailureKind where
  | opened | stuck
deriving DecidableEq, Repr

/-- One failure list entry (7.1). -/
structure FailureEntry where
  lamp      : Lamp
  kind      : FailureKind
  frame     : Word32
  reported  : Bool
  recovered : Bool
deriving DecidableEq, Repr

/-! ### Fault, watch, notice and counter units (chapters 7, 8 and 10) -/

/-- The fault kinds (7.3). -/
inductive FaultKind where
  | corrected | uncorrectable | chain
deriving DecidableEq, Repr

/-- A set of fault kinds: the fault flags, the fault mask (7.3). -/
structure FaultSet where
  corrected     : Bool
  uncorrectable : Bool
  chain         : Bool
deriving DecidableEq, Repr

/-- The place of a fault (R134). -/
inductive FaultPlace where
  | lamp (n : Lamp)
  | string (n : StringNo)
deriving DecidableEq, Repr

/-- The fault record (7.3). -/
structure FaultRecord where
  flags : FaultSet
  mask  : FaultSet
  kind  : Option FaultKind
  place : Option FaultPlace
  frame : Word32
  more  : Bool
deriving DecidableEq, Repr

/-- The watch kinds (8.1). -/
inductive WatchKind where
  | aspect | attributes | alarm | ack | override
deriving DecidableEq, Repr

/-- A set of watch kinds (8.1). -/
structure KindSet where
  aspect     : Bool
  attributes : Bool
  alarm      : Bool
  ack        : Bool
  override   : Bool
deriving DecidableEq, Repr

/-- The window actions (8.1). -/
inductive WindowAction where
  | record | block
deriving DecidableEq, Repr

/-- One watch window (8.1). -/
structure Window where
  lower   : Lamp
  upper   : Lamp
  sources : PerPort Bool
  kinds   : KindSet
  action  : WindowAction
deriving DecidableEq, Repr

/-- What the watch capture holds of one hit (8.3). The command is its CODE and, for ACKNOWLEDGE, its scope code. -/
structure Hit where
  window  : WindowNo
  port    : Port
  code    : Byte
  scope   : Byte
  kind    : WatchKind
  lamp    : Lamp
  blocked : Bool
  frame   : Word32
deriving DecidableEq, Repr

/-- The watch capture (8.3): free while it holds no hit. -/
structure Capture where
  hit  : Option Hit
  more : Bool
deriving DecidableEq, Repr

/-- The ten notice kinds (10.1). -/
inductive NoticeKind where
  | alarm | horn | failure | lapse | link | watch | fault | handover | hold | test
deriving DecidableEq, Repr

/-- The event selections of the counters (R168). -/
inductive CounterEvent where
  | commandsDone | commandsRefused | framesDiscarded | alarmsRaised | acks
  | lampFailures | zoneLapses | framesScanned | watchHits
deriving DecidableEq, Repr

/-- The counter modes (R169). -/
inductive CounterMode where
  | wrap | stick
deriving DecidableEq, Repr

/-- One activity counter (10.4). A zone filter of none is ANY. -/
structure Counter where
  event : CounterEvent
  ports : PerPort Bool
  zone  : Option ZoneNo
  mode  : CounterMode
  value : Word32
deriving DecidableEq, Repr

/-! ### The whole part -/

/-- The state of the part. The output pins are views of it (Flags.lean): attention lines, horn output, lamp outputs. -/
structure State where
  /-- Whether the reset pin is asserted (R163). -/
  resetAsserted : Bool
  lineRate      : LineRate
  ports         : PerPort PortState
  mode          : ArbMode
  /-- The ports from the least to the most recently served (R158). -/
  served        : List Port
  lamps         : Vector LampRecord 4096
  zones         : Vector ZoneRecord 64
  horn          : Horn
  links         : PerPort LinkRecord
  slot          : Handover
  scan          : ScanState
  levels        : Levels
  timing        : Timing
  pendingTiming : Option Timing
  /-- In seconds (R92). -/
  holdLimit     : Nat
  /-- In seconds (R92). -/
  testLimit     : Nat
  slowPhase     : Nat
  fastPhase     : Nat
  frameCount    : Word32
  snapshot      : Vector Rendering 4096
  hold          : Hold
  session       : Session
  /-- Whether the lamp-test input is asserted (R99). -/
  testInput     : Bool
  /-- While RUNNING, after how many ms from the latest frame start the next one is taken (R84). -/
  nextFrame     : Option Nat
  strings       : Vector StringRecord 16
  progress      : FrameProgress
  /-- The drive counts handed to the scan engine for the frame (R86, R90). -/
  drive         : Vector Nat 4096
  /-- Per string, the bits last shifted and latched, in the order they went out; none while its outputs are off. -/
  latched       : Vector (List Bool) 16
  failThreshold     : Nat
  recoveryThreshold : Nat
  /-- Oldest entry first (R123). -/
  failures      : List FailureEntry
  overflow      : Bool
  fault         : FaultRecord
  windows       : Vector Window 4
  capture       : Capture
  /-- For each notice kind, in the order of their codes, the ports it is routed to (R165). -/
  routing       : Vector (PerPort Bool) 10
  /-- For each port, which kinds are pending, in the order of their codes (R164). -/
  notices       : PerPort (Vector Bool 10)
  counters      : Vector Counter 4
  /-- The model's own field: the commands handed to the part and not yet taken, the next one first. -/
  pending       : List Instr
deriving DecidableEq, Repr

/-- Why the part would stop. No constructor: nothing this manual describes stops the part, and no meaning of this
model answers with a fault, so there is nothing here to be safe or unsafe about. -/
inductive Fault where
deriving DecidableEq, Repr

/-- Why the model would give a command no meaning. -/
inductive Refusal where
  /-- Raised by an arm of `exec` whose command has no meaning yet; safe, as the run stops there. No arm raises it. -/
  | notModelled (mnemonic : String)
deriving DecidableEq, Repr

/-! ### Power-up values -/

/-- The same thing for every port. -/
def PerPort.all {α : Type} (x : α) : PerPort α := ⟨x, x, x⟩

/-- A receiver in HUNT with no held bytes and its gap timer stopped (R153). -/
def Receiver.idle : Receiver := ⟨.hunt, [], false⟩

/-- A port after power-up reset (R153, R156). -/
def PortState.reset : PortState := ⟨.idle, false, [], [], none⟩

/-- A lamp record after power-up reset (R8). -/
def LampRecord.reset : LampRecord where
  telemetry := .dark
  override  := none
  alarm     := .normal
  attrs     := ⟨false, .quiet, 0, true⟩
  health    := .unknown
  runCount  := 0
  suspect   := false
  rendering := ⟨.dark, 0⟩
  integrity := .clean

/-- A zone record after power-up reset (2.1, R25). -/
def ZoneRecord.reset : ZoneRecord where
  enabled   := false
  base      := 0
  size      := 8
  owner     := none
  stale     := true
  treatment := .keep
  summary   := none
  unack     := 0
  standing  := 0

/-- A link record after power-up reset (3.1, R46). -/
def LinkRecord.reset : LinkRecord := ⟨.silent, none, 50, 0, false⟩

/-- An EMPTY handover slot (R57). -/
def Handover.reset : Handover := ⟨.empty, 0, none⟩

/-- A string record after power-up reset (6.1, R105). -/
def StringRecord.reset : StringRecord := ⟨0, none, .unused, 0⟩

/-- The fault record after power-up reset (7.3, R134). -/
def FaultRecord.reset : FaultRecord := ⟨⟨false, false, false⟩, ⟨true, false, false⟩, none, none, 0, false⟩

/-- A watch window after power-up reset (8.1, R140). -/
def Window.reset : Window := ⟨4095, 0, .all false, ⟨false, false, false, false, false⟩, .record⟩

/-- A counter after power-up reset (R168). -/
def Counter.reset : Counter := ⟨.commandsDone, .all true, none, .wrap, 0⟩

/-- The part right after power-up reset, every block at its power-up values (R163 and the rules cited above). The
line rate and the lamp-test input are sampled from pins as the reset ends (R81, R150): here with both rate pins low and
the input released (DESIGN CHOICE, log entry 3). -/
def State.reset : State where
  resetAsserted := false
  lineRate      := .r19200
  ports         := .all .reset
  mode          := .fair
  served        := [.d, .t1, .t2]
  lamps         := Vector.replicate 4096 .reset
  zones         := Vector.replicate 64 .reset
  horn          := .quiet
  links         := .all .reset
  slot          := .reset
  scan          := .dark
  levels        := ⟨255, 32, Vector.replicate 8 255⟩
  timing        := ⟨10, 100, 25⟩
  pendingTiming := none
  holdLimit     := 5
  testLimit     := 30
  slowPhase     := 0
  fastPhase     := 0
  frameCount    := 0
  snapshot      := Vector.replicate 4096 ⟨.dark, 0⟩
  hold          := .free
  session       := .off
  testInput     := false
  nextFrame     := none
  strings       := Vector.replicate 16 .reset
  progress      := .none
  drive         := Vector.replicate 4096 0
  latched       := Vector.replicate 16 []
  failThreshold     := 3
  recoveryThreshold := 8
  failures      := []
  overflow      := false
  fault         := .reset
  windows       := Vector.replicate 4 .reset
  capture       := ⟨none, false⟩
  routing       := Vector.replicate 10 (.all true)
  notices       := .all (Vector.replicate 10 false)
  counters      := Vector.replicate 4 .reset
  pending       := []

end Sys2Proof.Machine
end

