-- ==== Sys2Proof/Machine/Operands.lean ====
section
/-! DEFINITION. What travels on the lines: the code tables, the encodings of fields, sets and records, the CRC, and the
two frame layouts (9.2, R151, R152). -/

namespace Sys2Proof.Machine

/-! ### Numbers -/

/-- A one-byte field (R152). -/
def byte (n : Nat) : Byte := BitVec.ofNat 8 n

/-- A two-byte field, high byte first (R152). -/
def bytes16 (n : Nat) : List Byte := [byte (n / 256), byte n]

/-- A four-byte field, high byte first (R152). -/
def bytes32 (w : Word32) : List Byte :=
  let n := w.toNat
  [byte (n / 16777216), byte (n / 65536), byte (n / 256), byte n]

/-- The number two bytes carry, high byte first (R152). -/
def number16 (hi lo : Byte) : Nat := hi.toNat * 256 + lo.toNat

/-- Yes/no and set/clear (R152). -/
def flagByte (b : Bool) : Byte := if b then 0x01 else 0x00

/-- The yes/no a byte carries, if it carries one (R152). -/
def flagOf? (b : Byte) : Option Bool := if b = 0x01 then some true else if b = 0x00 then some false else none

/-- A value clamped to a range (00_scope.md, "Ranges and clamping"). -/
def clamp (low high n : Nat) : Nat := max low (min high n)

/-- A lamp number, if it is one (R1). -/
def lampOf? (n : Nat) : Option Lamp := if h : n < 4096 then some ⟨n, h⟩ else none

/-- A zone number, if it is one. -/
def zoneNoOf? (b : Byte) : Option ZoneNo := if h : b.toNat < 64 then some ⟨b.toNat, h⟩ else none

/-- A string number, if it is one. -/
def stringNoOf? (b : Byte) : Option StringNo := if h : b.toNat < 16 then some ⟨b.toNat, h⟩ else none

/-- A window number, if it is one. -/
def windowNoOf? (b : Byte) : Option WindowNo := if h : b.toNat < 4 then some ⟨b.toNat, h⟩ else none

/-- A counter number, if it is one. -/
def counterNoOf? (b : Byte) : Option CounterNo := if h : b.toNat < 4 then some ⟨b.toNat, h⟩ else none

/-- A lamp field that may be absent, or ALL, uses 0xFFFF for that (R152). -/
def absentLamp : Nat := 0xFFFF

/-- A lamp field that may be absent (R152). -/
def lampBytes (n : Option Lamp) : List Byte := bytes16 (n.elim absentLamp Fin.val)

/-- A one-byte numeric field that may be none or absent (R152). -/
def numberOrAbsent (n : Option Nat) : Byte := n.elim 0xFF byte

/-! ### Names (the code table of 9.2) -/

def Aspect.code : Aspect → Byte
  | .dark => 0x00 | .lit => 0x01 | .slow => 0x02 | .fast => 0x03

def Aspect.ofCode? (b : Byte) : Option Aspect :=
  if b = 0x00 then some .dark else if b = 0x01 then some .lit
  else if b = 0x02 then some .slow else if b = 0x03 then some .fast else none

/-- The override code of READ LAMPS, 0x04 when absent. -/
def overrideCode (o : Option Aspect) : Byte := o.elim 0x04 Aspect.code

def AlarmState.code : AlarmState → Byte
  | .normal => 0x00 | .new => 0x01 | .standing => 0x02 | .returned => 0x03

def Health.code : Health → Byte
  | .unknown => 0x00 | .good => 0x01 | .opened => 0x02 | .stuck => 0x03 | .unsupervised => 0x04

def FailureKind.code : FailureKind → Byte
  | .opened => 0x02 | .stuck => 0x03

def HornClass.code : HornClass → Byte
  | .quiet => 0x00 | .sound => 0x01

def HornClass.ofCode? (b : Byte) : Option HornClass :=
  if b = 0x00 then some .quiet else if b = 0x01 then some .sound else none

def Horn.code : Horn → Byte
  | .quiet => 0x00 | .sounding => 0x01

def portCode : Port → Byte
  | .t1 => 0x01 | .t2 => 0x02 | .d => 0x04

/-- An owner, a poster, a captured port: none is 0x00. -/
def portOrNone (p : Option Port) : Byte := p.elim 0x00 portCode

def Treatment.code : Treatment → Byte
  | .keep => 0x00 | .dim => 0x01 | .blink => 0x02

def Treatment.ofCode? (b : Byte) : Option Treatment :=
  if b = 0x00 then some .keep else if b = 0x01 then some .dim else if b = 0x02 then some .blink else none

def LinkState.code : LinkState → Byte
  | .silent => 0x00 | .live => 0x01

def SlotState.code : SlotState → Byte
  | .empty => 0x00 | .posted => 0x01 | .lapsed => 0x02

def StringState.code : StringState → Byte
  | .unused => 0x00 | .intact => 0x01 | .broken => 0x02

def ScanState.code : ScanState → Byte
  | .dark => 0x00 | .running => 0x01

def Hold.code : Hold → Byte
  | .free => 0x00 | .held .. => 0x01

def Session.code : Session → Byte
  | .off => 0x00 | .on .. => 0x01

def TestSource.code : TestSource → Byte
  | .pin => 0x01 | .command => 0x02

/-- The acknowledge scopes (4.3). -/
inductive Scope where
  | lamps | zone | all
deriving DecidableEq, Repr

def Scope.code : Scope → Byte
  | .lamps => 0x01 | .zone => 0x02 | .all => 0x03

def Scope.ofCode? (b : Byte) : Option Scope :=
  if b = 0x01 then some .lamps else if b = 0x02 then some .zone else if b = 0x03 then some .all else none

def WatchKind.code : WatchKind → Byte
  | .aspect => 0x01 | .attributes => 0x02 | .alarm => 0x04 | .ack => 0x08 | .override => 0x10

def WindowAction.code : WindowAction → Byte
  | .record => 0x00 | .block => 0x01

def WindowAction.ofCode? (b : Byte) : Option WindowAction :=
  if b = 0x00 then some .record else if b = 0x01 then some .block else none

/-- The watch outcome: APPLIED or BLOCKED. -/
def outcomeCode (blocked : Bool) : Byte := if blocked then 0x01 else 0x00

def FaultKind.code : FaultKind → Byte
  | .corrected => 0x01 | .uncorrectable => 0x02 | .chain => 0x04

def ArbMode.code : ArbMode → Byte
  | .fair => 0x00 | .priority => 0x01

def ArbMode.ofCode? (b : Byte) : Option ArbMode :=
  if b = 0x00 then some .fair else if b = 0x01 then some .priority else none

/-- The place of a notice kind in a set: its set value is 2 to this power, its code one more (9.2). -/
def NoticeKind.index : NoticeKind → Fin 10
  | .alarm => 0 | .horn => 1 | .failure => 2 | .lapse => 3 | .link => 4
  | .watch => 5 | .fault => 6 | .handover => 7 | .hold => 8 | .test => 9

def NoticeKind.ofCode? (b : Byte) : Option NoticeKind :=
  [NoticeKind.alarm, .horn, .failure, .lapse, .link, .watch, .fault, .handover, .hold, .test].find?
    fun k => b.toNat = k.index.val + 1

def NoticeKind.code (k : NoticeKind) : Byte := byte (k.index.val + 1)

def CounterEvent.code : CounterEvent → Byte
  | .commandsDone => 0x01 | .commandsRefused => 0x02 | .framesDiscarded => 0x03
  | .alarmsRaised => 0x04 | .acks => 0x05 | .lampFailures => 0x06
  | .zoneLapses => 0x07 | .framesScanned => 0x08 | .watchHits => 0x09

def CounterEvent.ofCode? (b : Byte) : Option CounterEvent :=
  [CounterEvent.commandsDone, .commandsRefused, .framesDiscarded, .alarmsRaised, .acks, .lampFailures,
    .zoneLapses, .framesScanned, .watchHits].find? fun e => e.code = b

def CounterMode.code : CounterMode → Byte
  | .wrap => 0x00 | .stick => 0x01

def CounterMode.ofCode? (b : Byte) : Option CounterMode :=
  if b = 0x00 then some .wrap else if b = 0x01 then some .stick else none

/-- The zone filter of a counter: a zone, or ANY (none here), 0xFF. The outer option is none for neither (R170). -/
def zoneFilterOf? (b : Byte) : Option (Option ZoneNo) :=
  if b = 0xFF then some none else (zoneNoOf? b).map some

def zoneFilterCode (z : Option ZoneNo) : Byte := z.elim 0xFF fun z => byte z.val

def Status.code : Status → Byte
  | .done => 0x00 | .queueFull => 0x01 | .length => 0x02 | .unknown => 0x03 | .role => 0x04
  | .range => 0x05 | .notRunning => 0x06 | .silent => 0x07 | .notOwner => 0x08 | .held => 0x09
  | .owned => 0x0A | .overlap => 0x0B | .notAlarm => 0x0C | .notHolder => 0x0D | .blocked => 0x0E

/-! ### Sets (R152) -/

/-- The sum of the values of a set's members, the members given lowest value first. -/
def sumOf : List Bool → Nat
  | [] => 0
  | b :: bs => (if b then 1 else 0) + 2 * sumOf bs

def PerPort.setByte (s : PerPort Bool) : Byte := byte (sumOf [s.t1, s.t2, s.d])

/-- The set of ports a byte is the sum of, if it is one. -/
def portSetOf? (b : Byte) : Option (PerPort Bool) :=
  if b.toNat < 8 then some ⟨b.getLsbD 0, b.getLsbD 1, b.getLsbD 2⟩ else none

def KindSet.setByte (s : KindSet) : Byte := byte (sumOf [s.aspect, s.attributes, s.alarm, s.ack, s.override])

/-- The set of watch kinds a byte is the sum of, if it is one. -/
def kindSetOf? (b : Byte) : Option KindSet :=
  if b.toNat < 32 then some ⟨b.getLsbD 0, b.getLsbD 1, b.getLsbD 2, b.getLsbD 3, b.getLsbD 4⟩ else none

def FaultSet.setByte (s : FaultSet) : Byte := byte (sumOf [s.corrected, s.uncorrectable, s.chain])

/-- RELEASE FAULT and SET FAULT MASK read their byte modulo 0x08 (R152). -/
def faultSetOf (b : Byte) : FaultSet := ⟨b.getLsbD 0, b.getLsbD 1, b.getLsbD 2⟩

/-- A set of notice kinds, two bytes (R152). -/
def noticeSetBytes (s : Vector Bool 10) : List Byte := bytes16 (sumOf s.toList)

/-! ### Packed records (9.2) -/

/-- The attributes in one lamp's four bytes of SET ATTRIBUTES, if each is of its field (R15). -/
def attributesOf? (capable horn group supervised : Byte) : Option Attributes :=
  match flagOf? capable, HornClass.ofCode? horn, flagOf? supervised with
  | some c, some h, some s => if hg : group.toNat < 8 then some ⟨c, h, ⟨group.toNat, hg⟩, s⟩ else none
  | _, _, _ => none

/-- A READ LAMPS record: six bytes (R23). -/
def lampRecordBytes (r : LampRecord) (zone : Option ZoneNo) : List Byte :=
  [ byte (0x10 * r.telemetry.code.toNat + (overrideCode r.override).toNat),
    byte (0x10 * r.alarm.code.toNat + r.health.code.toNat),
    byte (r.attrs.dimGroup.val + 0x08 * (flagByte r.attrs.alarmCapable).toNat + 0x10 * r.attrs.hornClass.code.toNat
      + 0x20 * (flagByte r.attrs.supervised).toNat + 0x40 * (flagByte r.suspect).toNat),
    numberOrAbsent (zone.map Fin.val),
    r.rendering.aspect.code,
    byte r.rendering.count ]

/-- A TAKE FAILURES record: seven bytes (R129). -/
def failureBytes (e : FailureEntry) : List Byte :=
  bytes16 e.lamp.val ++ bytes32 e.frame ++ [byte (e.kind.code.toNat + 0x10 * (flagByte e.recovered).toNat)]

/-! ### CRC and frames (9.2, R151) -/

/-- One bit into the CRC-16: generator x^16 + x^12 + x^5 + 1. -/
def crcBit (crc : Word16) (bit : Bool) : Word16 :=
  if crc.msb != bit then (crc <<< 1) ^^^ 0x1021 else crc <<< 1

/-- One byte into the CRC-16, most significant bit first. -/
def crcByte (crc : Word16) (b : Byte) : Word16 :=
  [7, 6, 5, 4, 3, 2, 1, 0].foldl (fun c i => crcBit c (b.getLsbD i)) crc

/-- The CRC-16 over some bytes: initial value 0xFFFF, no final inversion. -/
def crc16 (bs : List Byte) : Word16 := bs.foldl crcByte 0xFFFF

/-- The bytes of a command frame after its SYNC, without CHECK. -/
def Command.body (c : Command) : List Byte := byte c.payload.length :: c.tag :: c.code :: c.payload

/-- The bytes of a command frame after its SYNC. -/
def Command.held (c : Command) : List Byte := c.body ++ bytes16 (crc16 c.body).toNat

/-- The bytes of a reply frame, with ROOM filled in and CHECK computed (R151, R156). -/
def Reply.frame (r : Reply) (room : Nat) : List Byte :=
  let body := byte r.payload.length :: r.tag :: r.code :: r.status.code :: byte room :: r.payload
  Config.replySync :: body ++ bytes16 (crc16 body).toNat

/-- The codes of the command table (9.2). -/
def knownCodes : List Byte :=
  [ 0x01, 0x02, 0x03, 0x04, 0x05, 0x10, 0x11, 0x12, 0x13, 0x14, 0x15, 0x20, 0x21, 0x22, 0x23, 0x24, 0x25,
    0x30, 0x31, 0x32, 0x33, 0x40, 0x41, 0x42, 0x43, 0x44, 0x45, 0x46, 0x47, 0x50, 0x51, 0x52,
    0x60, 0x61, 0x62, 0x63, 0x70, 0x71, 0x72, 0x80, 0x90, 0x91, 0x92, 0x93 ]

/-! ### Lamps named by a command -/

/-- The existing lamps among `count` lamps from number `first`, in rising order (R13). -/
def lampsFrom (first count : Nat) : List Lamp := (List.range count).filterMap fun k => lampOf? (first + k)

/-- A batch: a first lamp and a count, as sent (R13). -/
structure Batch where
  first : Nat
  count : Nat
deriving DecidableEq, Repr

/-- The lamps a batch names. -/
def Batch.lamps (b : Batch) : List Lamp := lampsFrom b.first b.count

/-- The number of the last lamp a batch names. -/
def Batch.last (b : Batch) : Nat := b.first + b.count - 1

/-- Whether a batch's count and lamps are in range (R13). -/
def Batch.ok (b : Batch) (max : Nat) : Bool :=
  1 ≤ b.count && b.count ≤ max && b.first ≤ 4095 && b.last ≤ 4095

/-- Bytes in groups of four (SET ATTRIBUTES). -/
def quads : List Byte → List (Byte × Byte × Byte × Byte)
  | a :: b :: c :: d :: rest => (a, b, c, d) :: quads rest
  | _ => []

end Sys2Proof.Machine
end

