-- ==== Sys2Proof/Machine/Ops.lean ====
section
/-! DEFINITION. The named operations over the part's state: one thing per port, banks of records, and the single-field
updates everything else is built from; which zone holds a lamp; where a lamp is. -/

namespace Sys2Proof.Machine

/-! ### Ports and banks -/

def PerPort.get {α : Type} (x : PerPort α) : Port → α
  | .t1 => x.t1 | .t2 => x.t2 | .d => x.d

def PerPort.set {α : Type} (x : PerPort α) (p : Port) (a : α) : PerPort α :=
  match p with
  | .t1 => { x with t1 := a } | .t2 => { x with t2 := a } | .d => { x with d := a }

/-- Each port's thing changed in its own way. -/
def PerPort.map {α β : Type} (x : PerPort α) (f : Port → α → β) : PerPort β :=
  ⟨f .t1 x.t1, f .t2 x.t2, f .d x.d⟩

/-- Whether a set of ports has a member. -/
def PerPort.any (x : PerPort Bool) : Bool := x.t1 || x.t2 || x.d

/-- Whether a set of ports holds all three. -/
def PerPort.every (x : PerPort Bool) : Bool := x.t1 && x.t2 && x.d

/-- A bank with every member changed, each by its number. -/
def bankMap {α β : Type} {n : Nat} (f : Nat → α → β) (v : Vector α n) : Vector β n :=
  ⟨(v.toList.zipIdx.map fun x => f x.2 x.1).toArray, by simp⟩

/-- Two banks joined member by member. -/
def bankZip {α β γ : Type} {n : Nat} (f : α → β → γ) (v : Vector α n) (w : Vector β n) : Vector γ n :=
  ⟨(List.zipWith f v.toList w.toList).toArray, by simp⟩

/-! ### Single-field updates -/

/-- A lamp record written whole; its stored code then covers it as written (R3). -/
def State.setLamp (s : State) (i : Lamp) (r : LampRecord) : State := { s with lamps := s.lamps.set i.val r i.isLt }

def State.setZone (s : State) (z : ZoneNo) (r : ZoneRecord) : State := { s with zones := s.zones.set z.val r z.isLt }

def State.setString (s : State) (n : StringNo) (r : StringRecord) : State :=
  { s with strings := s.strings.set n.val r n.isLt }

def State.setPort (s : State) (p : Port) (r : PortState) : State := { s with ports := s.ports.set p r }

def State.setLink (s : State) (p : Port) (r : LinkRecord) : State := { s with links := s.links.set p r }

/-- A reply appended to a port's reply queue (R155, R162). -/
def State.addReply (s : State) (p : Port) (r : Reply) : State :=
  s.setPort p { s.ports.get p with replies := (s.ports.get p).replies ++ [r] }

/-! ### Zones and locations -/

/-- Whether an enabled zone's range holds the lamp numbered `n` (R26, R27). -/
def ZoneRecord.holds (z : ZoneRecord) (n : Nat) : Bool := z.enabled && z.base ≤ n && n < z.base + z.size

/-- The zone of a lamp: the enabled zone whose range holds it; none for a common lamp (R27). -/
def State.zoneOf (s : State) (n : Nat) : Option ZoneNo := (List.finRange 64).find? fun z => s.zones[z].holds n

/-- The ownership check for one lamp from a telemetry port (R29). -/
def State.mayWrite (s : State) (p : Port) (i : Lamp) : Bool :=
  match s.zoneOf i.val with
  | none => true
  | some z => s.zones[z].owner = some p

/-- The string a lamp lies on (R1). -/
def stringOf (n : Nat) : Nat := n / 256

/-- The module a lamp lies on (R1). -/
def moduleOf (n : Nat) : Nat := n % 256 / 8

/-- A lamp's output within its module (R1). -/
def positionOf (n : Nat) : Nat := n % 8

/-- The number of lamps awaiting acknowledgement that an alarm state stands for (R62, R71). -/
def AlarmState.unack : AlarmState → Nat
  | .new | .returned => 1
  | .normal | .standing => 0

/-- The number of standing alarms that an alarm state stands for (R71). -/
def AlarmState.stands : AlarmState → Nat
  | .standing => 1
  | _ => 0

/-- The records of `size` lamps from number `base` (R33). -/
def State.range (s : State) (base size : Nat) : List LampRecord := (s.lamps.toList.drop base).take size

/-- The unacknowledged count of a range, from its lamps' alarm states (R33, R71). -/
def State.countUnack (s : State) (base size : Nat) : Nat :=
  ((s.range base size).map fun r => r.alarm.unack).sum

/-- The standing count of a range, from its lamps' alarm states (R33, R71). -/
def State.countStanding (s : State) (base size : Nat) : Nat :=
  ((s.range base size).map fun r => r.alarm.stands).sum

end Sys2Proof.Machine
end

