-- ==== Sys2Proof/Machine/Flags.lean ====
section
/-! DEFINITION. Everything the part signals: notices and attention lines, activity counters, the fault record, the horn,
and the output pins as views of the state. -/

namespace Sys2Proof.Machine

/-! ### Notices (10.1 to 10.3) -/

/-- A notice kind raised: added to the pending set of every port it is routed to (R164). -/
def State.raise (s : State) (k : NoticeKind) : State :=
  { s with notices := s.notices.map fun p set =>
      if s.routing[k.index].get p then set.set k.index.val true k.index.isLt else set }

/-- The attention output of a port: asserted while its pending set is not empty, and never during reset (R163, R166). -/
def State.attention (s : State) (p : Port) : Bool := !s.resetAsserted && (s.notices.get p).toList.any id

/-! ### Activity counters (10.4) -/

/-- Whether a counter counts an event (R169). -/
def Counter.counts (c : Counter) (e : CounterEvent) (p : Option Port) (z : Option ZoneNo) : Bool :=
  c.event = e
  && (match p with | some p => c.ports.get p | none => c.ports.every)
  && (match c.zone with | none => true | some f => z = some f)

/-- One more on a counter: from its top a WRAP counter goes to 0 and a STICK counter stays (R169). -/
def Counter.bump (c : Counter) : Counter :=
  if c.mode = .stick ∧ c.value = BitVec.allOnes 32 then c else { c with value := c.value + 1 }

/-- An event reported to the counter unit and offered to all four counters (R168, R169). -/
def State.report (s : State) (e : CounterEvent) (p : Option Port) (z : Option ZoneNo) : State :=
  { s with counters := bankMap (fun _ c => if c.counts e p z then c.bump else c) s.counters }

/-! ### The fault record (7.3) -/

def FaultSet.has (f : FaultSet) : FaultKind → Bool
  | .corrected => f.corrected | .uncorrectable => f.uncorrectable | .chain => f.chain

def FaultSet.add (f : FaultSet) : FaultKind → FaultSet
  | .corrected => { f with corrected := true }
  | .uncorrectable => { f with uncorrectable := true }
  | .chain => { f with chain := true }

/-- Whether any flag is set, which is when the record is frozen (R134). -/
def FaultSet.any (f : FaultSet) : Bool := f.corrected || f.uncorrectable || f.chain

/-- The flags of `f` that are not named by `g` (R137). -/
def FaultSet.without (f g : FaultSet) : FaultSet :=
  ⟨f.corrected && !g.corrected, f.uncorrectable && !g.uncorrectable, f.chain && !g.chain⟩

/-- A fault report arriving at the fault unit, with the frame counter as it stands (R135). -/
def State.reportFault (s : State) (k : FaultKind) (place : FaultPlace) : State :=
  if s.fault.mask.has k then s
  else if s.fault.flags.any then
    { s with fault := { s.fault with flags := s.fault.flags.add k, more := true } }
  else
    State.raise { s with fault := { s.fault with
      flags := s.fault.flags.add k, kind := some k, place := some place, frame := s.frameCount } } .fault

/-! ### The horn (4.5) -/

/-- Whether some lamp of horn class SOUND is in NEW, by the records as last written (R74, R75). -/
def State.soundNew (s : State) : Bool :=
  s.lamps.toList.any fun r => r.alarm = .new && r.attrs.hornClass = .sound

/-- The horn in a state, with a HORN notice if that changes it (R74). -/
def State.setHorn (s : State) (h : Horn) : State :=
  if s.horn = h then s else State.raise { s with horn := h } .horn

/-- The horn brought to its new state at the end of an application (R74): `entered` says whether a SOUND-class lamp
entered NEW in it. -/
def State.settleHorn (s : State) (entered : Bool) : State :=
  if entered then s.setHorn .sounding
  else if s.horn = .sounding ∧ s.soundNew = false then s.setHorn .quiet
  else s

/-- The horn output pin (R77, R163). -/
def State.hornPin (s : State) : Bool := !s.resetAsserted && s.horn = .sounding

/-! ### Lamp and line outputs -/

/-- Whether a lamp's output is on (R106, R107): the bit for module 0, position 0 went out last. -/
def State.lampOn (s : State) (i : Lamp) : Bool :=
  let bits := (s.latched[stringOf i.val]?).getD []
  let k := i.val % 256
  k < bits.length && bits.getD (bits.length - 1 - k) false

/-- Whether a port's transmit line is at mark with nothing to send (R156, R163). -/
def State.transmitAtMark (s : State) (p : Port) : Bool := (s.ports.get p).sending = none

end Sys2Proof.Machine
end

