-- ==== Sys2Proof/Machine/Image.lean ====
section
/-! DEFINITION. The protected image store (1.2, 1.3, 7.2): upsets, the checking read, changes of alarm state with the zone
counts that follow them; and the failure list (7.1), which the lamp supervisor and SET ATTRIBUTES change. -/

namespace Sys2Proof.Machine

/-! ### Alarm states and zone counts (R71) -/

/-- The counts of the lamp's zone brought into line with its leaving one alarm state for another (R71). -/
def State.countChange (s : State) (i : Lamp) (was now : AlarmState) : State :=
  match s.zoneOf i.val with
  | none => s
  | some z =>
    let r := s.zones[z]
    s.setZone z { r with
      unack := r.unack + now.unack - was.unack
      standing := r.standing + now.stands - was.stands }

/-- A lamp's alarm state changed, and its zone's counts with it (R71). -/
def State.setAlarm (s : State) (i : Lamp) (a : AlarmState) : State :=
  (s.countChange i s.lamps[i].alarm a).setLamp i { s.lamps[i] with alarm := a }

/-! ### Upsets and the checking read (R3, R131, R132) -/

/-- Flipped bits landing in the stored records. -/
def State.land (s : State) (upsets : List Upset) : State :=
  upsets.foldl (fun s u => s.setLamp u.lamp
    { s.lamps[u.lamp] with integrity := if u.double then .double else .single }) s

/-- The suspect defaults (R132). -/
def LampRecord.suspectDefaults : LampRecord := { LampRecord.reset with suspect := true }

/-- A checking read of one record: a single error is corrected, a double error replaces the record (R3, R73, R131,
R132). -/
def State.checkLamp (s : State) (i : Lamp) : State :=
  match s.lamps[i].integrity with
  | .clean => s
  | .single => (s.setLamp i { s.lamps[i] with integrity := .clean }).reportFault .corrected (.lamp i)
  | .double =>
    (((s.countChange i s.lamps[i].alarm .normal).setLamp i .suspectDefaults).settleHorn false).reportFault
      .uncorrectable (.lamp i)

/-- Checking reads of several records, one after another. Where the manual gives the lamps no order they stand in rising
number (DESIGN CHOICE, log entry 26). -/
def State.checkLamps (s : State) (lamps : List Lamp) : State := lamps.foldl State.checkLamp s

/-! ### The failure list (7.1) -/

/-- A lamp declared failed, reported to the failure list (R124, R125). -/
def State.declare (s : State) (i : Lamp) (k : FailureKind) : State :=
  State.raise
    (if s.failures.any (fun e => e.lamp = i) then
      { s with failures := s.failures.map fun e =>
          if e.lamp = i then ⟨i, k, s.frameCount, false, false⟩ else e }
    else if s.failures.length < Config.failureDepth then
      { s with failures := s.failures ++ [⟨i, k, s.frameCount, false, false⟩] }
    else { s with overflow := true })
    .failure

/-- A lamp becoming GOOD, reported to the failure list (R126). -/
def State.becameGood (s : State) (i : Lamp) : State :=
  { s with failures := s.failures.filterMap fun e =>
      if e.lamp = i then (if e.reported then none else some { e with recovered := true }) else some e }

/-- A lamp taken out of the drive loses its entry (R111, R127). -/
def State.dropFailure (s : State) (i : Lamp) : State :=
  { s with failures := s.failures.filter fun e => e.lamp ≠ i }

end Sys2Proof.Machine
end

