-- ==== Sys2Proof/Machine/Executor.lean ====
section
/-! DEFINITION. The command arbiter and the command executor (9.5, 9.6), the checks that several commands share, and the
watch unit's part in a command (8.2, 8.3). -/

namespace Sys2Proof.Machine

/-! ### The arbiter (R158) -/

/-- A port is waiting while its command queue is not empty and it has reply room (R156, R158). -/
def State.waiting (s : State) (p : Port) : Bool :=
  !(s.ports.get p).commands.isEmpty && (s.ports.get p).replies.length < Config.queueDepth

/-- The arbiter's choice among the waiting ports (R158). -/
def State.choice (s : State) : Option Port :=
  match s.mode with
  | .fair => s.served.find? s.waiting
  | .priority => [Port.d, .t1, .t2].find? s.waiting

/-- Whether the executor's next taking is of this command from this port: the part is not in reset, the arbiter chooses
the port, and the command heads its queue (R158, R163). -/
def State.takes (s : State) (p : Port) (c : Command) : Bool :=
  !s.resetAsserted && s.choice = some p && (s.ports.get p).commands.head? = some c

/-- The head command leaves its queue, and the port moves to the end of the served order (R155, R158). -/
def State.takeHead (s : State) (p : Port) : State :=
  { s.setPort p { s.ports.get p with commands := (s.ports.get p).commands.tail } with
    served := s.served.filter (· ≠ p) ++ [p] }

/-! ### The executor (R160 to R162) -/

/-- What the executor answers to a command: its STATUS and the reply's payload. -/
structure Answer where
  status  : Status
  payload : List Byte
deriving DecidableEq, Repr

/-- A DONE answer. -/
def Answer.done (payload : List Byte) : Answer := ⟨.done, payload⟩

/-- The end of a taking: the reply is appended, and then the command is counted as done or refused, attributed to the
port and to a zone (R162, R168, R170). -/
def State.conclude (s : State) (p : Port) (c : Command) (z : Option ZoneNo) (a : Answer) : State :=
  (s.addReply p ⟨c.tag, c.code, a.status, a.payload⟩).report
    (if a.status = .done then .commandsDone else .commandsRefused) (some p) z

/-- The taking of one command (R160). Upsets land first. The command's payload is read (LENGTH if it cannot be), the zone
it is attributed to is found before it is applied, and it is then judged: refused, or applied whole. Where this is not
the taking the executor makes next, the event does not happen and the state stays (log entry 2). -/
def State.executes {α : Type} (s : State) (p : Port) (c : Command) (upsets : List Upset) (parse : List Byte → Option α)
    (zone : State → α → Option ZoneNo) (judge : State → α → State × Answer) : State :=
  if s.takes p c then
    let s₁ := (s.land upsets).takeHead p
    match parse c.payload with
    | none => s₁.conclude p c none ⟨.length, []⟩
    | some a => (judge s₁ a).1.conclude p c (zone s₁ a) (judge s₁ a).2
  else s

/-- A command that is attributed to no zone (R168). -/
def noZone {α : Type} (_ : State) (_ : α) : Option ZoneNo := none

/-! ### Shared checks (R160). Each answers the refusal, or none when the check passes. -/

/-- The telemetry role: ports T1 and T2. -/
def telemetryOnly (p : Port) : Option Answer := if p = .d then some ⟨.role, []⟩ else none

/-- The desk role: port D. -/
def deskOnly (p : Port) : Option Answer := if p = .d then none else some ⟨.role, []⟩

/-- The RANGE check of a batch, naming the first lamp as sent (R13). -/
def batchRange (b : Batch) (max : Nat) : Option Answer :=
  if b.ok max then none else some ⟨.range, bytes16 b.first⟩

/-- The ownership check of some lamps, naming the first that fails (R13, R29). -/
def State.notOwner (s : State) (p : Port) (lamps : List Lamp) : Option Answer :=
  (lamps.find? fun i => !s.mayWrite p i).map fun i => ⟨.notOwner, bytes16 i.val⟩

/-- Refused without effect, or else applied. -/
def State.unless (s : State) (refusal : Option Answer) (apply : State × Answer) : State × Answer :=
  match refusal with
  | some a => (s, a)
  | none => apply

/-- The payload of a command that carries none. -/
def parseEmpty : List Byte → Option Unit
  | [] => some ()
  | _ => none

/-- A payload of one byte. -/
def parse1 : List Byte → Option Byte
  | [a] => some a
  | _ => none

/-- A payload of two bytes. -/
def parse2 : List Byte → Option (Byte × Byte)
  | [a, b] => some (a, b)
  | _ => none

/-- A payload that is a first lamp and a count. -/
def parseBatch : List Byte → Option Batch
  | [hi, lo, n] => some ⟨number16 hi lo, n.toNat⟩
  | _ => none

/-- A command that names lamps by a first lamp is attributed to that lamp's zone (R168). -/
def State.zoneOfFirst (s : State) (b : Batch) : Option ZoneNo := (lampOf? b.first).bind fun i => s.zoneOf i.val

/-! ### The watch unit (8.2, 8.3) -/

def KindSet.has (k : KindSet) : WatchKind → Bool
  | .aspect => k.aspect | .attributes => k.attributes | .alarm => k.alarm | .ack => k.ack | .override => k.override

def KindSet.any (k : KindSet) : Bool := k.aspect || k.attributes || k.alarm || k.ack || k.override

/-- Whether a window is active (R140). -/
def Window.active (w : Window) : Bool := w.lower ≤ w.upper && w.sources.any && w.kinds.any

/-- The lowest of the lamps `low` to `high` in the range of a window that a command touching them matches, if it does
match it (R142, R144). -/
def Window.meets (w : Window) (p : Port) (k : WatchKind) (low high : Nat) : Option Lamp :=
  if w.active && w.sources.get p && w.kinds.has k && max w.lower.val low ≤ min w.upper.val high then
    lampOf? (max w.lower.val low)
  else none

/-- The windows a command matches, lowest-numbered first, each with its lowest touched lamp (R143, R144). -/
def State.matches (s : State) (p : Port) (k : WatchKind) (low high : Nat) : List (WindowNo × Lamp) :=
  (List.finRange 4).filterMap fun w => (s.windows[w].meets p k low high).map fun i => (w, i)

/-- A hit handed to the watch capture, with its WATCH HITS event (R144, R145). -/
def State.recordHit (s : State) (h : Hit) : State :=
  ((match s.capture.hit with
    | none => State.raise { s with capture := ⟨some h, s.capture.more⟩ } .watch
    | some _ => { s with capture := { s.capture with more := true } }) : State).report
    .watchHits (some h.port) (s.zoneOf h.lamp.val)

/-- The watch check, the last of the checks, and the application if it lets the command through (R143): a BLOCK window
refuses; otherwise the command is applied, and then recorded if any window matched. -/
def State.watched (s : State) (p : Port) (code scope : Byte) (k : WatchKind) (low high : Nat)
    (apply : State × Answer) : State × Answer :=
  let found := s.matches p k low high
  let hit (blocked : Bool) (h : WindowNo × Lamp) : Hit := ⟨h.1, p, code, scope, k, h.2, blocked, s.frameCount⟩
  match found.head? with
  | none => apply
  | some first =>
    match found.find? fun h => s.windows[h.1].action = .block with
    | some b => (s.recordHit (hit true first), ⟨.blocked, byte b.1.val :: bytes16 b.2.val⟩)
    | none => (apply.1.recordHit (hit false first), apply.2)

end Sys2Proof.Machine
end

