-- ==== Sys2Proof/Machine/Alarms.lean ====
section
/-! DEFINITION. The alarm commands (chapter 4): RAISE ALARM, CLEAR ALARM, ACKNOWLEDGE, SILENCE HORN. -/

namespace Sys2Proof.Machine

/-! ### The transitions (R63) -/

def AlarmState.raised : AlarmState → AlarmState
  | .normal => .new | .new => .new | .standing => .standing | .returned => .new

def AlarmState.cleared : AlarmState → AlarmState
  | .normal => .normal | .new => .returned | .standing => .normal | .returned => .returned

def AlarmState.acknowledged : AlarmState → AlarmState
  | .normal => .normal | .new => .standing | .standing => .standing | .returned => .normal

/-- How many of some lamps an event changes the alarm state of. -/
def State.changes (s : State) (event : AlarmState → AlarmState) (lamps : List Lamp) : Nat :=
  lamps.countP fun i => event s.lamps[i].alarm ≠ s.lamps[i].alarm

/-! ### RAISE ALARM and CLEAR ALARM (R65 to R67) -/

/-- The NOT ALARM check, naming the first lamp that is not alarm-capable (R65). -/
def State.notAlarm (s : State) (lamps : List Lamp) : Option Answer :=
  (lamps.find? fun i => !s.lamps[i].attrs.alarmCapable).map fun i => ⟨.notAlarm, bytes16 i.val⟩

/-- The refusals of RAISE ALARM and CLEAR ALARM, in order (R65). -/
def State.alarmRefusal (s : State) (p : Port) (b : Batch) : Option Answer :=
  (telemetryOnly p).or ((batchRange b 64).or ((s.notOwner p b.lamps).or (s.notAlarm b.lamps)))

/-- RAISE on one lamp (R66): an entry to NEW brings an ALARM notice and an ALARMS RAISED event. -/
def State.raiseLamp (p : Port) (s : State) (i : Lamp) : State :=
  let a := s.lamps[i].alarm
  if a.raised = a then s
  else ((s.setAlarm i a.raised).raise .alarm).report .alarmsRaised (some p) (s.zoneOf i.val)

/-- Whether a lamp of horn class SOUND would enter NEW by RAISE on some lamps (R74). -/
def State.soundEnters (s : State) (lamps : List Lamp) : Bool :=
  lamps.any fun i => s.lamps[i].alarm.raised ≠ s.lamps[i].alarm && s.lamps[i].attrs.hornClass = .sound

def judgeRaiseAlarm (p : Port) (s₀ : State) (b : Batch) : State × Answer :=
  let s := s₀.checkLamps b.lamps
  s.unless (s.alarmRefusal p b)
    (s.watched p 0x30 0x00 .alarm b.first b.last
      ((b.lamps.foldl (State.raiseLamp p) s).settleHorn (s.soundEnters b.lamps),
       .done (bytes16 b.first ++ [byte b.count, byte (s.changes AlarmState.raised b.lamps)])))

/-- RAISE_ALARM (R66). -/
def execRaiseAlarm (p : Port) (tag : Byte) (payload : List Byte) (upsets : List Upset) (s : State) :
    Host.Outcome State Fault Refusal :=
  .next (s.executes p ⟨tag, 0x30, payload⟩ upsets parseBatch State.zoneOfFirst (judgeRaiseAlarm p))

/-- CLEAR on one lamp (R67). -/
def State.clearLamp (s : State) (i : Lamp) : State :=
  let a := s.lamps[i].alarm
  if a.cleared = a then s else s.setAlarm i a.cleared

def judgeClearAlarm (p : Port) (s₀ : State) (b : Batch) : State × Answer :=
  let s := s₀.checkLamps b.lamps
  s.unless (s.alarmRefusal p b)
    (s.watched p 0x31 0x00 .alarm b.first b.last
      ((b.lamps.foldl State.clearLamp s).settleHorn false,
       .done (bytes16 b.first ++ [byte b.count, byte (s.changes AlarmState.cleared b.lamps)])))

/-- CLEAR_ALARM (R67). -/
def execClearAlarm (p : Port) (tag : Byte) (payload : List Byte) (upsets : List Upset) (s : State) :
    Host.Outcome State Fault Refusal :=
  .next (s.executes p ⟨tag, 0x31, payload⟩ upsets parseBatch State.zoneOfFirst (judgeClearAlarm p))

/-! ### ACKNOWLEDGE (R68 to R70) -/

/-- ACKNOWLEDGE's payload: a scope with what it carries. A scope byte of no scope keeps what a payload of its length
would carry, for the RANGE refusal. -/
inductive AckScope where
  | lamps (b : Batch)
  | zone (z : Byte)
  | all
  | bad (carried : List Byte)
deriving DecidableEq, Repr

/-- The LENGTH check of ACKNOWLEDGE: the length must be a scope's, and be the one of the scope given (R68). -/
def parseAcknowledge : List Byte → Option AckScope
  | [c] => match Scope.ofCode? c with
    | some .all => some .all | some _ => none | none => some (.bad [])
  | [c, z] => match Scope.ofCode? c with
    | some .zone => some (.zone z) | some _ => none | none => some (.bad [z])
  | [c, hi, lo, n] => match Scope.ofCode? c with
    | some .lamps => some (.lamps ⟨number16 hi lo, n.toNat⟩) | some _ => none | none => some (.bad [hi, lo])
  | _ => none

/-- The lamps a scope names: for ZONE, the range of the zone if it is enabled (4.3, R69). -/
def State.ackLamps (s : State) : AckScope → List Lamp
  | .lamps b => b.lamps
  | .zone z => match zoneNoOf? z with
    | some k => if s.zones[k].enabled then lampsFrom s.zones[k].base s.zones[k].size else []
    | none => []
  | .all => lampsFrom 0 4096
  | .bad _ => []

/-- The zone ACKNOWLEDGE is attributed to (R168). -/
def State.ackZone (s : State) : AckScope → Option ZoneNo
  | .lamps b => s.zoneOfFirst b
  | .zone z => zoneNoOf? z
  | .all => none
  | .bad _ => none

/-- ACKNOWLEDGE on one lamp (R69): an acknowledgement change brings an ACKS event. -/
def State.ackLamp (p : Port) (s : State) (i : Lamp) : State :=
  let a := s.lamps[i].alarm
  if a.acknowledged = a then s
  else (s.setAlarm i a.acknowledged).report .acks (some p) (s.zoneOf i.val)

/-- ACKNOWLEDGE applied to the lamps `low` to `high`, with the watch check before it (R69, R70). -/
def State.acknowledged (s : State) (p : Port) (scope : Scope) (carried : List Byte) (lamps : List Lamp)
    (low high : Nat) : State × Answer :=
  s.watched p 0x32 scope.code .ack low high
    ((lamps.foldl (State.ackLamp p) s).settleHorn false,
     .done (scope.code :: carried ++ bytes16 (s.changes AlarmState.acknowledged lamps)))

def judgeAcknowledge (p : Port) (s₀ : State) (a : AckScope) : State × Answer :=
  let s := s₀.checkLamps (s₀.ackLamps a)
  match a with
  | .lamps b =>
    s.unless ((batchRange b 64).or (if p = .d then none else s.notOwner p b.lamps))
      (s.acknowledged p .lamps (bytes16 b.first ++ [byte b.count]) b.lamps b.first b.last)
  | .zone z =>
    match zoneNoOf? z with
    | none => (s, ⟨.range, [z]⟩)
    | some k =>
      let r := s.zones[k]
      if !r.enabled then (s, ⟨.range, [z]⟩)
      else if p ≠ .d ∧ r.owner ≠ some p then (s, ⟨.notOwner, [z, portOrNone r.owner]⟩)
      else s.acknowledged p .zone [z] (lampsFrom r.base r.size) r.base (r.base + r.size - 1)
  | .all => s.unless (deskOnly p) (s.acknowledged p .all [] (lampsFrom 0 4096) 0 4095)
  | .bad carried => (s, ⟨.range, carried⟩)

/-- ACKNOWLEDGE (R69). -/
def execAcknowledge (p : Port) (tag : Byte) (payload : List Byte) (upsets : List Upset) (s : State) :
    Host.Outcome State Fault Refusal :=
  .next (s.executes p ⟨tag, 0x32, payload⟩ upsets parseAcknowledge State.ackZone (judgeAcknowledge p))

/-! ### SILENCE HORN (R76) -/

def judgeSilenceHorn (p : Port) (s : State) (_ : Unit) : State × Answer :=
  s.unless (deskOnly p) (s.setHorn .quiet, .done [Horn.quiet.code])

/-- SILENCE_HORN (R76). -/
def execSilenceHorn (p : Port) (tag : Byte) (payload : List Byte) (s : State) : Host.Outcome State Fault Refusal :=
  .next (s.executes p ⟨tag, 0x33, payload⟩ [] parseEmpty noZone (judgeSilenceHorn p))

end Sys2Proof.Machine
end

