-- ==== Sys2Proof/Machine/Links.lean ====
section
/-! DEFINITION. Link supervision and the handover slot (chapter 3). -/

namespace Sys2Proof.Machine

/-! ### Link commands (3.3) -/

/-- An allowance count in a reply: a signed byte (R152). -/
def allowanceByte (n : Int) : Byte := BitVec.ofInt 8 n

/-- PRESENT (R53). -/
def execPresent (p : Port) (tag : Byte) (payload : List Byte) (s : State) : Host.Outcome State Fault Refusal :=
  .next (s.executes p ⟨tag, 0x20, payload⟩ [] parseEmpty noZone fun s _ =>
    (s, .done [(s.links.get p).state.code, allowanceByte (s.links.get p).allowance]))

/-- SET_TIMEOUT (R54): the requester's timeout, clamped to 1 to 300; the running timer keeps its remaining time. -/
def execSetTimeout (p : Port) (tag : Byte) (payload : List Byte) (s : State) : Host.Outcome State Fault Refusal :=
  .next (s.executes p ⟨tag, 0x21, payload⟩ [] parse2 noZone fun s a =>
    let t := clamp 1 300 (number16 a.1 a.2)
    (s.setLink p { s.links.get p with timeout := t }, .done (bytes16 t)))

/-- SET_ALLOWANCE (R55): the requester's allowance count, clamped to 0 to 127, its saturated flag cleared. -/
def execSetAllowance (p : Port) (tag : Byte) (payload : List Byte) (s : State) : Host.Outcome State Fault Refusal :=
  .next (s.executes p ⟨tag, 0x22, payload⟩ [] parse1 noZone fun s a =>
    let n := clamp 0 127 a.toNat
    (s.setLink p { s.links.get p with allowance := n, saturated := false }, .done [byte n]))

/-- One port's part of READ LINK (R56). -/
def LinkRecord.report (l : LinkRecord) : List Byte :=
  [l.state.code, allowanceByte l.allowance, flagByte l.saturated] ++ bytes16 l.timeout

/-- READ_LINK (R56): T1, T2 and D in that order. -/
def execReadLink (p : Port) (tag : Byte) (payload : List Byte) (s : State) : Host.Outcome State Fault Refusal :=
  .next (s.executes p ⟨tag, 0x23, payload⟩ [] parseEmpty noZone fun s _ =>
    (s, .done (s.links.t1.report ++ s.links.t2.report ++ s.links.d.report)))

/-! ### The handover slot (3.4) -/

/-- The slot as a reply gives it (R58, R59). -/
def Handover.report (h : Handover) : List Byte := h.state.code :: bytes16 h.word.toNat ++ [portOrNone h.poster]

/-- The slot after a post by `p`: POSTED by a LIVE requester, LAPSED by a SILENT one (R58). -/
def State.posted (s : State) (p : Port) (word : Word16) : Handover :=
  ⟨match (s.links.get p).state with | .live => .posted | .silent => .lapsed, word, some p⟩

def judgePostHandover (p : Port) (s : State) (a : Byte × Byte) : State × Answer :=
  s.unless (telemetryOnly p)
    (let h := s.posted p (a.1 ++ a.2)
     (State.raise { s with slot := h } .handover, .done h.report))

/-- POST_HANDOVER (R58). -/
def execPostHandover (p : Port) (tag : Byte) (payload : List Byte) (s : State) : Host.Outcome State Fault Refusal :=
  .next (s.executes p ⟨tag, 0x24, payload⟩ [] parse2 noZone (judgePostHandover p))

def judgeTakeHandover (p : Port) (s : State) (_ : Unit) : State × Answer :=
  s.unless (telemetryOnly p) ({ s with slot := .reset }, .done s.slot.report)

/-- TAKE_HANDOVER (R59). -/
def execTakeHandover (p : Port) (tag : Byte) (payload : List Byte) (s : State) : Host.Outcome State Fault Refusal :=
  .next (s.executes p ⟨tag, 0x25, payload⟩ [] parseEmpty noZone (judgeTakeHandover p))

/-! ### The lapse (R50) -/

/-- One zone's part in the lapse of a port: if the port owns it, it loses its owner and becomes stale, with a LAPSE notice
and a ZONE LAPSES event. -/
def State.lapseZone (p : Port) (s : State) (z : ZoneNo) : State :=
  if s.zones[z].owner = some p then
    ((s.setZone z { s.zones[z] with owner := none, stale := true }).raise .lapse).report .zoneLapses (some p) (some z)
  else s

/-- The hold freed, with a HOLD notice. -/
def State.endHold (s : State) : State := State.raise { s with hold := .free } .hold

/-- The port holding the board, if it is held (R93). -/
def Hold.holder : Hold → Option Port
  | .free => none
  | .held p _ _ => some p

/-- The hold's part in the lapse of a port (R50). -/
def State.lapseHold (s : State) (p : Port) : State := if s.hold.holder = some p then s.endHold else s

/-- The handover slot's part in the lapse of a port (R50, R60). -/
def State.lapseSlot (s : State) (p : Port) : State :=
  if s.slot.state = .posted ∧ s.slot.poster = some p then
    State.raise { s with slot := { s.slot with state := .lapsed } } .handover
  else s

/-- The lapse of a port that goes from LIVE to SILENT (R50): zones, hold, slot, and one LINK notice. -/
def State.lapse (s : State) (p : Port) : State :=
  ((((List.finRange 64).foldl (State.lapseZone p) s).lapseHold p).lapseSlot p).raise .link

/-- A link record after an expiry of its silence timer (R48). -/
def LinkRecord.expired (l : LinkRecord) : LinkRecord where
  state     := if l.allowance > 0 then l.state else .silent
  timer     := some l.timeout
  timeout   := l.timeout
  allowance := if l.allowance > -128 then l.allowance - 1 else l.allowance
  saturated := if l.allowance > -128 then l.saturated else true

/-- SILENCE_TIMER_EXPIRY (R48): the allowance count is spent or lowered, the timer restarts, and a LIVE port with no
allowance left goes SILENT with its lapse. A stopped timer does not expire (R46). -/
def execSilenceTimerExpiry (p : Port) (s : State) : Host.Outcome State Fault Refusal :=
  .next (
    let l := s.links.get p
    if s.resetAsserted ∨ l.timer = none then s
    else
      let s₁ := s.setLink p l.expired
      if l.state = .live ∧ l.expired.state = .silent then s₁.lapse p else s₁)

end Sys2Proof.Machine
end

