-- ==== Sys2Proof/Machine/Scan.lean ====
section
/-! DEFINITION. The scan engine and the lamp supervisor (chapter 6): module counts, sub-frames, frame ends, and the health
decision. -/

namespace Sys2Proof.Machine

/-! ### Putting a module count in force (R111) -/

/-- A lamp removed from the drive (R111, R127). The supervisor's write of the record is a checking read first (R3). -/
def State.removeLamp (s : State) (i : Lamp) : State :=
  let s₁ := s.checkLamp i
  let r := s₁.lamps[i]
  (s₁.setLamp i { r with health := if r.attrs.supervised then .unknown else r.health, runCount := 0 }).dropFailure i

/-- A string's record once a module count is in force (R111). -/
def StringRecord.withCount (r : StringRecord) (count : Nat) : StringRecord where
  count      := count
  pending    := none
  state      := if count = 0 then .unused else .intact
  lastAnswer := if count = 0 then 0 else r.lastAnswer

/-- A module count put in force for a string: its record, and the lamps on modules that leave the drive (R111). The
removed lamps get their checking reads in rising lamp number: R111 and R135 give no order, and it decides which of several
faults is captured (DESIGN CHOICE, log entry 26). -/
def State.putInForce (s : State) (n : StringNo) (count : Nat) : State :=
  let old := s.strings[n].count
  (lampsFrom (256 * n.val + 8 * count) (8 * (old - count))).foldl State.removeLamp
    (s.setString n (s.strings[n].withCount count))

/-- The pending module counts put in force at a frame start (R106, R110). -/
def State.forcePending (s : State) : State :=
  (List.finRange 16).foldl (fun s n =>
    match s.strings[n].pending with
    | none => s
    | some count => s.putInForce n count) s

/-! ### SET STRING, SET SUPERVISION, READ STRINGS -/

def judgeSetString (p : Port) (s : State) (a : Byte × Byte) : State × Answer :=
  s.unless (telemetryOnly p)
    (match stringNoOf? a.1 with
    | none => (s, ⟨.range, [a.1]⟩)
    | some n =>
      let count := clamp 0 32 a.2.toNat
      match s.scan with
      | .dark => (s.putInForce n count, .done [a.1, byte count, Config.stringInForce])
      | .running =>
        (s.setString n { s.strings[n] with pending := some count }, .done [a.1, byte count, Config.stringPending]))

/-- SET_STRING (R110). -/
def execSetString (p : Port) (tag : Byte) (payload : List Byte) (upsets : List Upset) (s : State) :
    Host.Outcome State Fault Refusal :=
  .next (s.executes p ⟨tag, 0x50, payload⟩ upsets parse2 noZone (judgeSetString p))

def judgeSetSupervision (p : Port) (s : State) (a : Byte × Byte) : State × Answer :=
  s.unless (telemetryOnly p)
    (let fail := clamp 1 15 a.1.toNat
     let recovery := clamp 1 15 a.2.toNat
     ({ s with failThreshold := fail, recoveryThreshold := recovery }, .done [byte fail, byte recovery]))

/-- SET_SUPERVISION (R119). -/
def execSetSupervision (p : Port) (tag : Byte) (payload : List Byte) (s : State) : Host.Outcome State Fault Refusal :=
  .next (s.executes p ⟨tag, 0x51, payload⟩ [] parse2 noZone (judgeSetSupervision p))

/-- One string's part of READ STRINGS (R121). -/
def StringRecord.report (r : StringRecord) : List Byte :=
  [byte r.count, numberOrAbsent r.pending, r.state.code, byte r.lastAnswer]

/-- READ_STRINGS (R121). -/
def execReadStrings (p : Port) (tag : Byte) (payload : List Byte) (s : State) : Host.Outcome State Fault Refusal :=
  .next (s.executes p ⟨tag, 0x52, payload⟩ [] parseEmpty noZone fun s _ =>
    (s, .done (s.strings.toList.flatMap StringRecord.report)))

/-! ### Driving a frame (R106, R108) -/

/-- The bits shifted down a string in sub-frame `j`, in the order they go out: module `count - 1` first and module 0
last, position 7 first and position 0 last (R106). -/
def State.shiftBits (s : State) (j n : Nat) : List Bool :=
  let count := (s.strings[n]?.map StringRecord.count).getD 0
  (((s.drive.toList.drop (256 * n)).take (8 * count)).map fun d => decide (j < d)).reverse

/-- SUB_FRAME (R106): the next sub-frame's bits are shifted down every string that has modules, and latched. Outside a
frame, or after its sixteenth sub-frame, there is no such event. -/
def execSubFrame (s : State) : Host.Outcome State Fault Refusal :=
  .next (match s.resetAsserted, s.progress with
    | false, .driving j =>
      if j < Config.subFrames then
        { s with latched := bankMap (fun n _ => s.shiftBits j n) s.latched, progress := .driving (j + 1) }
      else s
    | _, _ => s)

/-- The strings that have modules, and so give answers (R108). -/
def State.driven (s : State) : List StringNo := (List.finRange 16).filter fun n => s.strings[n].count > 0

/-- FRAME_END (R84): the close of the sixteenth sub-frame, with one FRAMES SCANNED event. -/
def execFrameEnd (s : State) : Host.Outcome State Fault Refusal :=
  .next (if s.resetAsserted = false ∧ s.progress = .driving Config.subFrames then
    State.report { s with progress := .answering s.driven } .framesScanned none none
  else s)

/-! ### The health decision (R113 to R118) -/

/-- The kinds of an observation (R114). -/
inductive Observation where
  | neutral | healthy | openMismatch | stuckMismatch
deriving DecidableEq, Repr

/-- The kind of an observation, by the lamp's drive count for the frame. A lamp that was never driven shows no current
while driven, and one that was always driven none while undriven (R108, R114). -/
def classify (drive : Nat) (o : Sensed) : Observation :=
  if drive ≤ 15 ∧ o.undriven then .stuckMismatch
  else if drive ≥ 1 then (if o.driven then .healthy else .openMismatch)
  else .neutral

/-- A lamp declared OPEN or STUCK: health, run count, LAMP FAILURES event, failure list (R115). -/
def State.failLamp (s : State) (i : Lamp) (k : FailureKind) : State :=
  ((s.setLamp i { s.lamps[i] with health := (match k with | .opened => .opened | .stuck => .stuck), runCount := 0 }).report
    .lampFailures none (s.zoneOf i.val)).declare i k

/-- A lamp that becomes GOOD from another health: health, run count, failure list (R115, R116). -/
def State.healLamp (s : State) (i : Lamp) : State :=
  (s.setLamp i { s.lamps[i] with health := .good, runCount := 0 }).becameGood i

/-- A mismatch of a lamp in UNKNOWN or GOOD (R115). -/
def State.mismatch (s : State) (i : Lamp) (k : FailureKind) : State :=
  let run := min 15 (s.lamps[i].runCount + 1)
  if run ≥ s.failThreshold then s.failLamp i k
  else s.setLamp i { s.lamps[i] with runCount := run }

/-- An observation applied to a supervised lamp (R115, R116). -/
def State.judgeLamp (s : State) (i : Lamp) (o : Observation) : State :=
  let r := s.lamps[i]
  match r.health, o with
  | _, .neutral => s
  | .unsupervised, _ => s
  | .unknown, .healthy => s.healLamp i
  | .good, .healthy => s.setLamp i { r with runCount := 0 }
  | .unknown, .openMismatch => s.mismatch i .opened
  | .unknown, .stuckMismatch => s.mismatch i .stuck
  | .good, .openMismatch => s.mismatch i .opened
  | .good, .stuckMismatch => s.mismatch i .stuck
  | .opened, .healthy | .stuck, .healthy =>
    let run := min 15 (r.runCount + 1)
    if run ≥ s.recoveryThreshold then s.healLamp i else s.setLamp i { r with runCount := run }
  | .opened, .openMismatch | .opened, .stuckMismatch | .stuck, .openMismatch | .stuck, .stuckMismatch =>
    s.setLamp i { r with runCount := 0 }

/-- One lamp dealt with in a delivery: its record is read with a checking read, and the observation is applied if the
lamp is supervised at that moment (R10, R113). -/
def State.observe (s : State) (i : Lamp) (o : Sensed) : State :=
  let s₁ := s.checkLamp i
  if s₁.lamps[i].attrs.supervised then s₁.judgeLamp i (classify s₁.drive[i] o) else s₁

/-- A string's delivery: its lamps in rising lamp number (R113). -/
def State.deliver (s : State) (n : StringNo) (sensed : List Sensed) : State :=
  (lampsFrom (256 * n.val) (8 * s.strings[n].count)).zipIdx.foldl
    (fun s x => s.observe x.1 (sensed.getD x.2 ⟨false, false⟩)) s

/-- A string's answers compared with its module count (R109): INTACT with its observations delivered, or BROKEN, with a
CHAIN fault if it was INTACT. -/
def State.answer (s : State) (n : StringNo) (answering : Nat) (sensed : List Sensed) : State :=
  let a := min 63 answering
  let r := s.strings[n]
  if a = r.count then (s.setString n { r with state := .intact, lastAnswer := a }).deliver n sensed
  else
    let s₁ := s.setString n { r with state := .broken, lastAnswer := a }
    if r.state = .intact then s₁.reportFault .chain (.string n) else s₁

/-- STRING_FRAME_END (R109): after the frame end, a string that has not yet answered for the frame gives its answers.
For any other string there is no such event. -/
def execStringFrameEnd (n : StringNo) (answering : Nat) (sensed : List Sensed) (upsets : List Upset) (s : State) :
    Host.Outcome State Fault Refusal :=
  .next (match s.resetAsserted, s.progress with
    | false, .answering left =>
      if n ∈ left then ({ s.land upsets with progress := .answering (left.erase n) } : State).answer n answering sensed
      else s
    | _, _ => s)

end Sys2Proof.Machine
end

