-- ==== Sys2Proof/Machine/Composer.lean ====
section
/-! DEFINITION. The frame composer (chapter 5): the frame start, scan states, settings, the board hold, lamp test. -/

namespace Sys2Proof.Machine

/-! ### Level and sub-frame arithmetic (R88, R89) -/

/-- L0, from the board level and a group level. -/
def levelZero (board group : Nat) : Nat := (board * group + 127) / 255

/-- L2: the DIM quartering where it applies, then the floor clamp. -/
def levelTwo (l0 : Nat) (dim : Bool) (floor : Nat) : Nat := max (if dim then l0 / 4 else l0) floor

/-- The sub-frame count of a level (R89). -/
def subFrameCount (l2 : Nat) : Nat := (l2 * 16 + 128) / 256

/-! ### Aspect precedence (R87) -/

/-- The alarm contribution of an alarm state (R64). -/
def AlarmState.contribution : AlarmState → Option Aspect
  | .normal => none | .new => some .fast | .standing => some .lit | .returned => some .slow

/-- Whether a zone decides the summary role of the lamp numbered `n`: enabled, naming it, with a count above 0 (R45). -/
def ZoneRecord.decides (z : ZoneRecord) (n : Nat) : Bool :=
  z.enabled && (z.summary.map Fin.val = some n) && (z.unack > 0 || z.standing > 0)

/-- The aspect a lamp's summary role gives, from its deciding zone (R44, R45). -/
def State.summaryAspect (s : State) (n : Nat) : Option Aspect :=
  ((List.finRange 64).find? fun z => s.zones[z].decides n).map fun z =>
    if s.zones[z].unack > 0 then .fast else .lit

/-- The stale treatment a lamp is under: that of its zone, if the zone is stale (R42, R43). -/
def State.staleTreatment (s : State) (n : Nat) : Option Treatment :=
  (s.zoneOf n).bind fun z => if s.zones[z].stale then some s.zones[z].treatment else none

/-- A telemetry aspect under a stale treatment (R43). -/
def treatedAspect (t : Option Treatment) (a : Aspect) : Aspect :=
  if t = some .blink ∧ a = .lit then .slow else a

/-- The aspect of a lamp by layers 2 to 6, and whether the DIM quartering applies to its level (R87). -/
def State.resolveAspect (s : State) (n : Nat) (r : LampRecord) : Aspect × Bool :=
  if r.suspect then (.slow, false)
  else match r.override with
  | some a => (a, false)
  | none => match r.alarm.contribution with
    | some a => (a, false)
    | none => match s.summaryAspect n with
      | some a => (a, false)
      | none => (treatedAspect (s.staleTreatment n) r.telemetry, s.staleTreatment n = some .dim)

/-- The rendering of a lamp at a fresh snapshot: its aspect and sub-frame count (R87 to R89). -/
def State.resolve (s : State) (n : Nat) (r : LampRecord) : Rendering :=
  let a := s.resolveAspect n r
  ⟨a.1, if a.1 = .dark then 0
    else subFrameCount (levelTwo (levelZero s.levels.board s.levels.groups[r.attrs.dimGroup]) a.2 s.levels.floor)⟩

/-- Whether an aspect is on in the frame, by the phase counters (R90). -/
def State.isOn (s : State) : Aspect → Bool
  | .dark => false
  | .lit => true
  | .slow => 2 * s.slowPhase < s.timing.slow
  | .fast => 2 * s.fastPhase < s.timing.fast

/-- The drive count of a lamp of the drawn picture (R90). -/
def State.driveCount (s : State) (r : Rendering) : Nat := if s.isOn r.aspect then r.count else 0

/-! ### The frame start (R84 to R86, R103) -/

/-- One phase counter at a frame start: put in force with its period at 0 if the pending period differs, and advanced
otherwise (R85). -/
def advance (period phase pending : Nat) : Nat := if pending = period then (phase + 1) % period else 0

/-- The phase advance of every frame start but the first after START SCAN (R85). -/
def State.phaseAdvance (s : State) : State :=
  let t := s.pendingTiming.getD s.timing
  { s with
    slowPhase := advance s.timing.slow s.slowPhase t.slow
    fastPhase := advance s.timing.fast s.fastPhase t.fast
    timing := t
    pendingTiming := none
    frameCount := s.frameCount + 1 }

/-- A lamp put in its place among lamps already in reading order (log entry 10). -/
def insertByRank (rank : Nat → Nat) (i : Lamp) : List Lamp → List Lamp
  | [] => [i]
  | k :: rest => if rank i.val ≤ rank k.val then i :: k :: rest else k :: insertByRank rank i rest

/-- The lamps whose records do not agree with their check codes, in rising order. -/
def State.flawed (s : State) : List Lamp :=
  s.lamps.toList.zipIdx.filterMap fun x => if x.1.integrity = .clean then none else lampOf? x.2

/-- The checking reads of every record at a frame start (R86): those of flawed records have effects, in an order that
the manual leaves open (R135; log entry 10). -/
def State.frameReads (s : State) : State :=
  s.checkLamps (s.flawed.foldr (insertByRank (Config.readRank s.frameCount.toNat)) [])

/-- The snapshot: a fresh one with the hold FREE, the held one with the hold HELD (R86). -/
def State.takeSnapshot (s : State) : State :=
  match s.hold with
  | .free => { s with snapshot := bankMap s.resolve s.lamps }
  | .held .. => s

/-- The drawn picture: every lamp LIT with 16 sub-frames while the session is ON, else the snapshot (R86, R102). -/
def State.drawn (s : State) : Vector Rendering 4096 :=
  match s.session with
  | .off => s.snapshot
  | .on .. => Vector.replicate 4096 ⟨.lit, 16⟩

/-- The last renderings written and the drive counts handed over (R86, R90, R103). -/
def State.draw (s : State) : State :=
  { s with
    lamps := bankZip (fun r d => { r with rendering := d }) s.lamps s.drawn
    drive := bankMap (fun _ d => s.driveCount d) s.drawn }

/-- A frame start after its phase advance (R86, R106): reads, picture, drive counts, pending module counts; then the
frame's sub-frames follow, and the next frame start after one frame period (R84). -/
def State.beginFrame (s : State) : State :=
  let s₁ := s.frameReads.takeSnapshot.draw.forcePending
  { s₁ with progress := .driving 0, nextFrame := some s₁.timing.period }

/-- FRAME_START (R84 to R86): taken while RUNNING, after the frame end of the frame before it and its strings' answers.
At any other time there is no such event. -/
def execFrameStart (upsets : List Upset) (s : State) : Host.Outcome State Fault Refusal :=
  .next (if s.resetAsserted = false ∧ s.scan = .running ∧ s.progress = .answering [] then
    (s.land upsets).phaseAdvance.beginFrame else s)

/-! ### Scan states (R82, R83) -/

/-- START SCAN applied in DARK (R82): pending timing in force, the counters at 0, and the first frame start, which skips
the phase advance. -/
def State.startScan (s : State) : State :=
  State.beginFrame { s with
    scan := .running
    timing := s.pendingTiming.getD s.timing
    pendingTiming := none
    slowPhase := 0
    fastPhase := 0
    frameCount := 0 }

def judgeStartScan (p : Port) (s : State) (_ : Unit) : State × Answer :=
  s.unless (telemetryOnly p)
    (let s₁ := match s.scan with | .dark => s.startScan | .running => s
     (s₁, .done (s.scan.code :: bytes32 s₁.frameCount)))

/-- START_SCAN (R82). -/
def execStartScan (p : Port) (tag : Byte) (payload : List Byte) (upsets : List Upset) (s : State) :
    Host.Outcome State Fault Refusal :=
  .next (s.executes p ⟨tag, 0x40, payload⟩ upsets parseEmpty noZone (judgeStartScan p))

/-- The lamp-test session ended, with a TEST notice (R101). -/
def State.endSession (s : State) : State := State.raise { s with session := .off } .test

/-- STOP SCAN applied in RUNNING (R83): DARK, outputs off, the frame abandoned, hold and session ended with their
notices. -/
def State.stopScan (s : State) : State :=
  let s₁ := { s with scan := .dark, nextFrame := none, progress := .none, latched := Vector.replicate 16 [] }
  let s₂ := if s.hold = .free then s₁ else s₁.endHold
  if s.session = .off then s₂ else s₂.endSession

def judgeStopScan (p : Port) (s : State) (_ : Unit) : State × Answer :=
  s.unless (telemetryOnly p)
    (match s.scan with | .dark => s | .running => s.stopScan, .done (s.scan.code :: bytes32 s.frameCount))

/-- STOP_SCAN (R83). -/
def execStopScan (p : Port) (tag : Byte) (payload : List Byte) (s : State) : Host.Outcome State Fault Refusal :=
  .next (s.executes p ⟨tag, 0x41, payload⟩ [] parseEmpty noZone (judgeStopScan p))

/-! ### Settings (R91, R92) -/

/-- SET LEVELS: board level, floor level, eight group levels. -/
def parseLevels : List Byte → Option Levels
  | [b, f, g0, g1, g2, g3, g4, g5, g6, g7] =>
    some ⟨b.toNat, clamp 16 255 f.toNat,
      #v[g0.toNat, g1.toNat, g2.toNat, g3.toNat, g4.toNat, g5.toNat, g6.toNat, g7.toNat]⟩
  | _ => none

/-- The ten levels as a reply gives them. -/
def Levels.report (l : Levels) : List Byte := byte l.board :: byte l.floor :: l.groups.toList.map byte

def judgeSetLevels (p : Port) (s : State) (l : Levels) : State × Answer :=
  s.unless (deskOnly p) ({ s with levels := l }, .done l.report)

/-- SET_LEVELS (R91). -/
def execSetLevels (p : Port) (tag : Byte) (payload : List Byte) (s : State) : Host.Outcome State Fault Refusal :=
  .next (s.executes p ⟨tag, 0x42, payload⟩ [] parseLevels noZone (judgeSetLevels p))

/-- SET TIMING: frame period, P_slow, P_fast, hold limit, lamp-test limit, each clamped (R92). -/
def parseTiming : List Byte → Option (Timing × Nat × Nat)
  | [f, sl, fa, h, t] =>
    some (⟨clamp 5 40 f.toNat, clamp 20 200 sl.toNat, clamp 4 50 fa.toNat⟩, clamp 1 20 h.toNat, clamp 5 120 t.toNat)
  | _ => none

def judgeSetTiming (p : Port) (s : State) (a : Timing × Nat × Nat) : State × Answer :=
  s.unless (telemetryOnly p)
    (let s₁ := { s with holdLimit := a.2.1, testLimit := a.2.2 }
     (match s.scan with
      | .dark => { s₁ with timing := a.1, pendingTiming := none }
      | .running => { s₁ with pendingTiming := some a.1 },
      .done [byte a.1.period, byte a.1.slow, byte a.1.fast, byte a.2.1, byte a.2.2]))

/-- SET_TIMING (R92). -/
def execSetTiming (p : Port) (tag : Byte) (payload : List Byte) (s : State) : Host.Outcome State Fault Refusal :=
  .next (s.executes p ⟨tag, 0x43, payload⟩ [] parseTiming noZone (judgeSetTiming p))

/-! ### The board hold (R93 to R96) -/

/-- The reply of HOLD BOARD, DONE or HELD: the holder and the start frame. -/
def holdReply (status : Status) (holder : Port) (start : Word32) : Answer := ⟨status, portCode holder :: bytes32 start⟩

def judgeHoldBoard (p : Port) (s : State) (_ : Unit) : State × Answer :=
  if s.scan = .dark then (s, ⟨.notRunning, []⟩)
  else if (s.links.get p).state = .silent then (s, ⟨.silent, []⟩)
  else match s.hold with
    | .free => ({ s with hold := .held p s.frameCount s.holdLimit }, holdReply .done p s.frameCount)
    | .held q start _ => (s, holdReply (if q = p then .done else .held) q start)

/-- HOLD_BOARD (R94). -/
def execHoldBoard (p : Port) (tag : Byte) (payload : List Byte) (s : State) : Host.Outcome State Fault Refusal :=
  .next (s.executes p ⟨tag, 0x44, payload⟩ [] parseEmpty noZone (judgeHoldBoard p))

def judgeReleaseHold (p : Port) (s : State) (_ : Unit) : State × Answer :=
  match s.hold with
  | .free => (s, .done [Hold.free.code])
  | .held q _ _ =>
    if q = p then ({ s with hold := .free }, .done [Hold.free.code])
    else if p = .d then (s.endHold, .done [Hold.free.code])
    else (s, ⟨.notHolder, [portCode q]⟩)

/-- RELEASE_HOLD (R95). -/
def execReleaseHold (p : Port) (tag : Byte) (payload : List Byte) (s : State) : Host.Outcome State Fault Refusal :=
  .next (s.executes p ⟨tag, 0x45, payload⟩ [] parseEmpty noZone (judgeReleaseHold p))

/-- HOLD_LIMIT_EXPIRY (R96): the hold is freed with a HOLD notice. The limit timer runs only while the hold is HELD. -/
def execHoldLimitExpiry (s : State) : Host.Outcome State Fault Refusal :=
  .next (if s.resetAsserted = true ∨ s.hold = .free then s else s.endHold)

/-! ### Lamp test (R98 to R101) -/

/-- A session begun while RUNNING with the session OFF, with a TEST notice (R100). -/
def State.beginSession (s : State) (source : TestSource) : State :=
  State.raise { s with session := .on source s.testLimit } .test

/-- The source of a session as a reply gives it. -/
def Session.report : Session → List Byte
  | .off => [Session.off.code]
  | .on source limit => [(Session.on source limit).code, source.code]

def judgeLampTestStart (p : Port) (s : State) (_ : Unit) : State × Answer :=
  s.unless ((deskOnly p).or (if s.scan = .dark then some ⟨.notRunning, []⟩ else none))
    (let s₁ := if s.session = .off then s.beginSession .command else s
     (s₁, .done s₁.session.report))

/-- LAMP_TEST_START (R100). -/
def execLampTestStart (p : Port) (tag : Byte) (payload : List Byte) (s : State) : Host.Outcome State Fault Refusal :=
  .next (s.executes p ⟨tag, 0x46, payload⟩ [] parseEmpty noZone (judgeLampTestStart p))

def judgeLampTestStop (p : Port) (s : State) (_ : Unit) : State × Answer :=
  s.unless (deskOnly p) (if s.session = .off then s else s.endSession, .done [Session.off.code])

/-- LAMP_TEST_STOP (R101). -/
def execLampTestStop (p : Port) (tag : Byte) (payload : List Byte) (s : State) : Host.Outcome State Fault Refusal :=
  .next (s.executes p ⟨tag, 0x47, payload⟩ [] parseEmpty noZone (judgeLampTestStop p))

/-- LAMP_TEST_INPUT_ASSERTION (R99, R100): the input's level becomes asserted; while RUNNING with the session OFF, a PIN
session starts. An input already asserted is not asserted again. -/
def execLampTestInputAssertion (s : State) : Host.Outcome State Fault Refusal :=
  .next (if s.resetAsserted ∨ s.testInput then s
    else
      let s₁ := { s with testInput := true }
      if s.scan = .running ∧ s.session = .off then s₁.beginSession .pin else s₁)

/-- Where an ON session came from. -/
def Session.source : Session → Option TestSource
  | .off => none
  | .on source _ => some source

/-- LAMP_TEST_INPUT_RELEASE (R99, R101): the input's level becomes released, and a PIN session ends. An input already
released is not released again. -/
def execLampTestInputRelease (s : State) : Host.Outcome State Fault Refusal :=
  .next (if s.resetAsserted = true ∨ s.testInput = false then s
    else
      let s₁ := { s with testInput := false }
      if s.session.source = some .pin then s₁.endSession else s₁)

/-- LAMP_TEST_LIMIT_EXPIRY (R101): the session ends with a TEST notice. The limit timer runs only while it is ON. -/
def execLampTestLimitExpiry (s : State) : Host.Outcome State Fault Refusal :=
  .next (if s.resetAsserted = true ∨ s.session = .off then s else s.endSession)

end Sys2Proof.Machine
end

