-- ==== Sys2Proof/Machine/Lamps.lean ====
section
/-! DEFINITION. The commands on the image (1.4): WRITE ASPECTS, SET ATTRIBUTES, FORCE LAMP, UNFORCE, READ LAMPS. -/

namespace Sys2Proof.Machine

/-! ### WRITE ASPECTS (R14) -/

/-- WRITE ASPECTS: a first lamp, a count, and one aspect byte per lamp. -/
def parseWriteAspects : List Byte → Option (Batch × List Byte)
  | hi :: lo :: n :: rest => if rest.length = n.toNat then some (⟨number16 hi lo, n.toNat⟩, rest) else none
  | _ => none

/-- The first value of a batch that is none of its field, as a RANGE refusal naming its lamp (R13). -/
def badValue {α β : Type} (b : Batch) (values : List α) (read : α → Option β) : Option Answer :=
  (values.findIdx? fun v => (read v).isNone).map fun k => ⟨.range, bytes16 (b.first + k)⟩

/-- The telemetry aspect of a lamp set (R14). -/
def State.writeAspect (s : State) (x : Lamp × Aspect) : State :=
  s.setLamp x.1 { s.lamps[x.1] with telemetry := x.2 }

/-- WRITE ASPECTS judged and applied (R13, R14), after the checking reads of the lamps it names. -/
def judgeWriteAspects (p : Port) (s₀ : State) (a : Batch × List Byte) : State × Answer :=
  let s := s₀.checkLamps a.1.lamps
  s.unless ((telemetryOnly p).or ((batchRange a.1 64).or ((badValue a.1 a.2 Aspect.ofCode?).or
      (s.notOwner p a.1.lamps))))
    (s.watched p 0x01 0x00 .aspect a.1.first a.1.last
      ((a.1.lamps.zip (a.2.filterMap Aspect.ofCode?)).foldl State.writeAspect s,
       .done (bytes16 a.1.first ++ [byte a.1.count])))

/-- WRITE_ASPECTS (R14). -/
def execWriteAspects (p : Port) (tag : Byte) (payload : List Byte) (upsets : List Upset) (s : State) :
    Host.Outcome State Fault Refusal :=
  .next (s.executes p ⟨tag, 0x01, payload⟩ upsets parseWriteAspects (fun s a => s.zoneOfFirst a.1) (judgeWriteAspects p))

/-! ### SET ATTRIBUTES (R15 to R19) -/

/-- SET ATTRIBUTES: a first lamp, a count, and four bytes per lamp. -/
def parseSetAttributes : List Byte → Option (Batch × List (Byte × Byte × Byte × Byte))
  | hi :: lo :: n :: rest =>
    if rest.length = 4 * n.toNat then some (⟨number16 hi lo, n.toNat⟩, quads rest) else none
  | _ => none

/-- One lamp's four bytes as attributes (R15). -/
def attributesOfQuad? (q : Byte × Byte × Byte × Byte) : Option Attributes := attributesOf? q.1 q.2.1 q.2.2.1 q.2.2.2

/-- One lamp given its attributes, with the side effects on its alarm state, health, run count and failure list entry
(R15, R16, R18). The horn is settled once, after the batch (R17). -/
def State.giveAttributes (s : State) (x : Lamp × Attributes) : State :=
  let old := s.lamps[x.1].attrs
  let s₁ := if old.alarmCapable && !x.2.alarmCapable then s.setAlarm x.1 .normal else s
  let s₂ := if old.supervised && !x.2.supervised then s₁.becameGood x.1 else s₁
  let r := { s₂.lamps[x.1] with attrs := x.2, suspect := false }
  s₂.setLamp x.1 (if old.supervised = x.2.supervised then r
    else { r with health := if x.2.supervised then .unknown else .unsupervised, runCount := 0 })

/-- SET ATTRIBUTES judged and applied (R13, R15), after the checking reads of the lamps it names. -/
def judgeSetAttributes (p : Port) (s₀ : State) (a : Batch × List (Byte × Byte × Byte × Byte)) : State × Answer :=
  let s := s₀.checkLamps a.1.lamps
  s.unless ((telemetryOnly p).or ((batchRange a.1 16).or ((badValue a.1 a.2 attributesOfQuad?).or
      (s.notOwner p a.1.lamps))))
    (s.watched p 0x02 0x00 .attributes a.1.first a.1.last
      (((a.1.lamps.zip (a.2.filterMap attributesOfQuad?)).foldl State.giveAttributes s).settleHorn false,
       .done (bytes16 a.1.first ++ [byte a.1.count])))

/-- SET_ATTRIBUTES (R15). -/
def execSetAttributes (p : Port) (tag : Byte) (payload : List Byte) (upsets : List Upset) (s : State) :
    Host.Outcome State Fault Refusal :=
  .next (s.executes p ⟨tag, 0x02, payload⟩ upsets parseSetAttributes (fun s a => s.zoneOfFirst a.1)
    (judgeSetAttributes p))

/-! ### FORCE LAMP and UNFORCE (R20, R21) -/

/-- FORCE LAMP: a lamp number and an aspect byte. -/
def parseForceLamp : List Byte → Option (Nat × Byte)
  | [hi, lo, a] => some (number16 hi lo, a)
  | _ => none

/-- A lamp's override set or taken away (R20, R21). -/
def State.setOverride (s : State) (i : Lamp) (o : Option Aspect) : State :=
  s.setLamp i { s.lamps[i] with override := o }

/-- FORCE LAMP judged and applied (R20), after the checking read of the lamp it names. -/
def judgeForceLamp (p : Port) (s₀ : State) (a : Nat × Byte) : State × Answer :=
  let s := s₀.checkLamps (lampOf? a.1).toList
  s.unless (deskOnly p)
    (match lampOf? a.1, Aspect.ofCode? a.2 with
    | some i, some o =>
      s.watched p 0x03 0x00 .override a.1 a.1 (s.setOverride i (some o), .done (bytes16 a.1))
    | _, _ => (s, ⟨.range, []⟩))

/-- FORCE_LAMP (R20). -/
def execForceLamp (p : Port) (tag : Byte) (payload : List Byte) (upsets : List Upset) (s : State) :
    Host.Outcome State Fault Refusal :=
  .next (s.executes p ⟨tag, 0x03, payload⟩ upsets parseForceLamp (fun s a => s.zoneOfFirst ⟨a.1, 1⟩) (judgeForceLamp p))

/-- UNFORCE: a lamp number, or 0xFFFF for ALL. -/
def parseUnforce : List Byte → Option Nat
  | [hi, lo] => some (number16 hi lo)
  | _ => none

/-- The lamps UNFORCE names: one, or all for ALL (R21). -/
def unforceLamps (n : Nat) : List Lamp := if n = absentLamp then lampsFrom 0 4096 else (lampOf? n).toList

/-- UNFORCE judged and applied (R21), after the checking reads of the lamps it names. -/
def judgeUnforce (p : Port) (s₀ : State) (n : Nat) : State × Answer :=
  let s := s₀.checkLamps (unforceLamps n)
  s.unless (deskOnly p)
    (if n = absentLamp then
      s.watched p 0x04 0x00 .override 0 4095
        ({ s with lamps := bankMap (fun _ r => { r with override := none }) s.lamps }, .done (bytes16 n))
    else match lampOf? n with
      | some i => s.watched p 0x04 0x00 .override n n (s.setOverride i none, .done (bytes16 n))
      | none => (s, ⟨.range, []⟩))

/-- UNFORCE (R21). -/
def execUnforce (p : Port) (tag : Byte) (payload : List Byte) (upsets : List Upset) (s : State) :
    Host.Outcome State Fault Refusal :=
  .next (s.executes p ⟨tag, 0x04, payload⟩ upsets parseUnforce (fun s n => s.zoneOfFirst ⟨n, 1⟩) (judgeUnforce p))

/-! ### READ LAMPS (R22, R23) -/

/-- The READ LAMPS record of a lamp as it stands (R23). -/
def State.lampReport (s : State) (i : Lamp) : List Byte := lampRecordBytes s.lamps[i] (s.zoneOf i.val)

/-- READ LAMPS judged (R22), after the checking reads of the lamps it names. -/
def judgeReadLamps (s₀ : State) (b : Batch) : State × Answer :=
  let s := s₀.checkLamps b.lamps
  s.unless (batchRange b 16)
    (s, .done (bytes16 b.first ++ byte b.count :: b.lamps.flatMap s.lampReport))

/-- READ_LAMPS (R22). -/
def execReadLamps (p : Port) (tag : Byte) (payload : List Byte) (upsets : List Upset) (s : State) :
    Host.Outcome State Fault Refusal :=
  .next (s.executes p ⟨tag, 0x05, payload⟩ upsets parseBatch State.zoneOfFirst judgeReadLamps)

end Sys2Proof.Machine
end

