-- ==== Sys2Proof/Machine/Ports.lean ====
section
/-! DEFINITION. The pins and lines: reset, the receivers, the transmitters, line breaks (9.1 to 9.4, 9.7). -/

namespace Sys2Proof.Machine

/-! ### Reset (R163) -/

/-- The rate two line-rate pins select (R150). -/
def lineRateOf (rate1 rate0 : Bool) : LineRate :=
  match rate1, rate0 with
  | false, false => .r19200
  | false, true => .r38400
  | true, false => .r115200
  | true, true => .r230400

/-- RESET_PIN_ASSERTED (R163, R107, R77): every lamp output off at once, replies in transmission cut short; the horn and
attention outputs are views that reset deasserts; no event is taken until the pin is released. -/
def execResetPinAsserted (s : State) : Host.Outcome State Fault Refusal :=
  .next { s with
    resetAsserted := true
    latched := Vector.replicate 16 []
    ports := s.ports.map fun _ q => { q with sending := none } }

/-- POWER_UP_RESET (R163): every block at its power-up values, with the line rate and the lamp-test input as sampled
(R81, R150). -/
def execPowerUpReset (rate1 rate0 lampTest : Bool) (s : State) : Host.Outcome State Fault Refusal :=
  .next { State.reset with
    lineRate := lineRateOf rate1 rate0
    testInput := lampTest
    pending := s.pending }

/-! ### The receiver (R153 to R155) -/

/-- What a receiver brings about beyond its own state: a valid frame, or a discarded one. -/
inductive RxOutput where
  | frame (c : Command)
  | discard
deriving DecidableEq, Repr

/-- The receiver's state while it holds some bytes of a frame after the SYNC (R153). -/
def phaseOf : List Byte → RxPhase
  | [] => .length
  | len :: rest => if rest.length < len.toNat + 2 then .body else .check

/-- How many bytes a frame has after its SYNC, by its LENGTH byte (R151). -/
def frameBytes (len : Byte) : Nat := len.toNat + 5

/-- The command in the bytes held of a whole frame, if its CHECK matches (R151, R153). -/
def frameOf? (held : List Byte) : Option Command :=
  match held with
  | len :: tag :: code :: rest =>
    let c : Command := ⟨tag, code, rest.take len.toNat⟩
    if held = c.held then some c else none
  | _ => none

/-- Held bytes taken again after a check mismatch, as if arriving now (R154): each SYNC starts a new frame; one that fails
its check is discarded and its own held bytes are taken again, which is to go on right after its SYNC. The receiver it
ends in, and what it brought about. `fuel` bounds the number of bytes. -/
def hunt : Nat → List Byte → Receiver × List RxOutput
  | 0, _ => (.idle, [])
  | _ + 1, [] => (.idle, [])
  | fuel + 1, b :: rest =>
    if b ≠ Config.commandSync then hunt fuel rest
    else match rest with
    | [] => (⟨.length, [], true⟩, [])
    | len :: more =>
      if len.toNat > Config.maxPayload then
        ((hunt fuel more).1, .discard :: (hunt fuel more).2)
      else if rest.length < frameBytes len then (⟨phaseOf rest, rest, true⟩, [])
      else match frameOf? (rest.take (frameBytes len)) with
        | some c =>
          let next := hunt fuel (rest.drop (frameBytes len))
          (next.1, .frame c :: next.2)
        | none => ((hunt fuel rest).1, .discard :: (hunt fuel rest).2)

/-- One byte taken from the receive line (R153, R154). -/
def Receiver.take (rx : Receiver) (b : Byte) (framingError : Bool) : Receiver × List RxOutput :=
  match rx.phase with
  | .hunt =>
    if !framingError && b = Config.commandSync then (⟨.length, [], true⟩, []) else (rx, [])
  | _ =>
    if framingError then (.idle, [.discard])
    else
      let held := rx.held ++ [b]
      match held with
      | [] => (.idle, [])
      | len :: _ =>
        if len.toNat > Config.maxPayload then (.idle, [.discard])
        else if held.length < frameBytes len then (⟨phaseOf held, held, true⟩, [])
        else match frameOf? held with
          | some c => (.idle, [.frame c])
          | none => ((hunt (held.length + 1) held).1, .discard :: (hunt (held.length + 1) held).2)

/-- A valid frame's arrival at the link supervisor: the silence timer is restarted, and a SILENT port becomes LIVE with
a LINK notice (R47). -/
def State.linkArrival (s : State) (p : Port) : State :=
  let l := s.links.get p
  let s₁ := s.setLink p { l with state := .live, timer := some l.timeout }
  if l.state = .silent then s₁.raise .link else s₁

/-- A command offered to its port's command queue (R155). -/
def State.offer (s : State) (p : Port) (c : Command) : State :=
  let q := s.ports.get p
  if q.commands.length < Config.queueDepth then s.setPort p { q with commands := q.commands ++ [c] }
  else
    (if q.replies.length < Config.queueDepth then s.addReply p ⟨c.tag, c.code, .queueFull, []⟩ else s).report
      .commandsRefused (some p) none

/-- A valid frame arriving on a port (R47, R155). -/
def State.arrive (s : State) (p : Port) (c : Command) : State := (s.linkArrival p).offer p c

/-- What a receiver brought about, brought to the blocks concerned (R154, R155). -/
def State.rxOutput (s : State) (p : Port) : RxOutput → State
  | .frame c => s.arrive p c
  | .discard => s.report .framesDiscarded (some p) none

/-- A byte taken by a port's receiver, with all that it brings about. -/
def State.takeByte (s : State) (p : Port) (b : Byte) (framingError : Bool) : State :=
  let taken := (s.ports.get p).rx.take b framingError
  taken.2.foldl (fun s o => s.rxOutput p o) (s.setPort p { s.ports.get p with rx := taken.1 })

/-- Whether a port's receiver takes bytes: not in reset, and not from a port reset until the line is back at mark
(R157, R163). -/
def State.receiving (s : State) (p : Port) : Bool := !s.resetAsserted && !(s.ports.get p).inBreak

/-- BYTE_TAKEN (R153): the receiver takes a byte from its line. -/
def execByteTaken (p : Port) (b : Byte) (framingError : Bool) (s : State) : Host.Outcome State Fault Refusal :=
  .next (if s.receiving p then s.takeByte p b framingError else s)

/-- FRAME_DISCARD (R154): the byte that discards a frame is taken. A byte that discards none is not this event, and
nothing happens. -/
def execFrameDiscard (p : Port) (b : Byte) (framingError : Bool) (s : State) : Host.Outcome State Fault Refusal :=
  .next (if s.receiving p && ((s.ports.get p).rx.take b framingError).2.head? = some .discard then
    s.takeByte p b framingError else s)

/-- Whether a receiver stands within a frame of this command, short of its last byte: in HUNT before its SYNC, or
holding the bytes after it so far. -/
def Receiver.within (rx : Receiver) (c : Command) : Bool :=
  rx.phase = .hunt || (rx.held.isPrefixOf c.held && rx.held.length < c.held.length)

/-- VALID_FRAME_ARRIVAL (R155): the rest of the frame of this command arrives and it is valid. A receiver that stands
within another frame does not meet this event, and nothing happens. -/
def execValidFrameArrival (p : Port) (tag code : Byte) (payload : List Byte) (s : State) :
    Host.Outcome State Fault Refusal :=
  let c : Command := ⟨tag, code, payload⟩
  .next (if s.receiving p && payload.length ≤ Config.maxPayload && (s.ports.get p).rx.within c then
    (s.setPort p { s.ports.get p with rx := .idle }).arrive p c else s)

/-- GAP_TIMER_EXPIRY (R154): the frame in progress is discarded and the receiver returns to HUNT. A stopped gap timer
does not expire. -/
def execGapTimerExpiry (p : Port) (s : State) : Host.Outcome State Fault Refusal :=
  .next (if !s.resetAsserted && (s.ports.get p).rx.gap then
    (s.setPort p { s.ports.get p with rx := .idle }).report .framesDiscarded (some p) none else s)

/-! ### Port reset (R157) -/

/-- PORT_RESET: a frame in progress is discarded, both queues are emptied, and no byte is taken until the line returns to
mark. A break already counted as a port reset is not a second one. -/
def execPortReset (p : Port) (s : State) : Host.Outcome State Fault Refusal :=
  .next (if s.receiving p then
    let q := s.ports.get p
    let s₁ := s.setPort p ⟨.idle, true, [], [], q.sending⟩
    if q.rx.phase = .hunt then s₁ else s₁.report .framesDiscarded (some p) none
  else s)

/-- LINE_RETURNED_TO_MARK: the break ends, and the receiver takes bytes again (R157). -/
def execLineReturnedToMark (p : Port) (s : State) : Host.Outcome State Fault Refusal :=
  .next (if s.resetAsserted then s else s.setPort p { s.ports.get p with inBreak := false })

/-! ### The transmitter (R156) -/

/-- The free places of a port's command queue, as ROOM gives them. -/
def PortState.room (q : PortState) : Nat := Config.queueDepth - q.commands.length

/-- TRANSMIT_REPLY: an idle transmitter takes the oldest reply, fills in ROOM and CHECK, and begins to send it. -/
def execTransmitReply (p : Port) (s : State) : Host.Outcome State Fault Refusal :=
  .next (if s.resetAsserted then s else
    match (s.ports.get p).sending, (s.ports.get p).replies with
    | none, r :: rest => s.setPort p { s.ports.get p with sending := some (r.frame (s.ports.get p).room), replies := rest }
    | _, _ => s)

/-- REPLY_SENT: the last CHECK byte has been sent, and the transmitter is idle. -/
def execReplySent (p : Port) (s : State) : Host.Outcome State Fault Refusal :=
  .next (if s.resetAsserted then s else s.setPort p { s.ports.get p with sending := none })

/-! ### An unknown code, and the arbitration mode -/

/-- UNKNOWN_COMMAND (R160): a command whose code is not in the table is taken and refused UNKNOWN. A code that is in the
table is another row's, and nothing happens. -/
def execUnknownCommand (p : Port) (tag code : Byte) (payload : List Byte) (s : State) :
    Host.Outcome State Fault Refusal :=
  .next (if code ∈ knownCodes then s else
    s.executes p ⟨tag, code, payload⟩ [] some noZone fun s _ => (s, ⟨.unknown, []⟩))

/-- SET_ARBITRATION (R159): the mode before and the mode after. -/
def execSetArbitration (p : Port) (tag : Byte) (payload : List Byte) (s : State) : Host.Outcome State Fault Refusal :=
  .next (s.executes p ⟨tag, 0x80, payload⟩ [] parse1 noZone fun s b =>
    s.unless (telemetryOnly p)
      (match ArbMode.ofCode? b with
      | none => (s, ⟨.range, []⟩)
      | some m => ({ s with mode := m }, .done [s.mode.code, m.code])))

end Sys2Proof.Machine
end

