-- ==== Sys2Proof/Machine/Records.lean ====
section
/-! DEFINITION. TAKE FAILURES, the fault record, the watch windows and capture, notices and counters: the commands of
chapters 7, 8 and 10. -/

namespace Sys2Proof.Machine

/-! ### TAKE FAILURES (R128, R129) -/

/-- The entries a TAKE FAILURES returns: the oldest UNREPORTED ones, up to the number asked for. -/
def returnedEntries (n : Nat) (l : List FailureEntry) : List FailureEntry := (l.filter fun e => !e.reported).take n

/-- The list after a TAKE FAILURES: of the entries it returns, those recovered leave and the others become REPORTED. -/
def takeEntries : Nat → List FailureEntry → List FailureEntry
  | _, [] => []
  | 0, l => l
  | n + 1, e :: rest =>
    if e.reported then e :: takeEntries (n + 1) rest
    else if e.recovered then takeEntries n rest
    else { e with reported := true } :: takeEntries n rest

def judgeTakeFailures (s : State) (b : Byte) : State × Answer :=
  if b.toNat = 0 ∨ b.toNat > 16 then (s, ⟨.range, [b]⟩)
  else
    let returned := returnedEntries b.toNat s.failures
    let list := takeEntries b.toNat s.failures
    ({ s with failures := list, overflow := false },
     .done ([flagByte s.overflow, byte returned.length, byte (list.countP fun e => !e.reported)]
       ++ returned.flatMap failureBytes))

/-- TAKE_FAILURES (R128). -/
def execTakeFailures (p : Port) (tag : Byte) (payload : List Byte) (s : State) : Host.Outcome State Fault Refusal :=
  .next (s.executes p ⟨tag, 0x60, payload⟩ [] parse1 noZone judgeTakeFailures)

/-! ### The fault record (R136 to R138) -/

/-- The captured place as READ FAULT gives it; while none is captured the manual does not say which field it is. -/
def placeBytes : Option FaultPlace → List Byte
  | some (.lamp n) => bytes16 n.val
  | some (.string n) => [byte n.val]
  | none => if Config.faultPlaceNoneIsLamp then bytes16 absentLamp else [0xFF]

/-- The fault record as READ FAULT gives it (R136). The three flags are sent as one set byte, as R138 has the mask sent:
R136 and R152 leave open whether they are a set or three set/clear bytes (DESIGN CHOICE, log entry 27). -/
def FaultRecord.report (f : FaultRecord) : List Byte :=
  [f.flags.setByte, f.mask.setByte, f.kind.elim Config.faultKindNone FaultKind.code] ++ placeBytes f.place
    ++ bytes32 f.frame ++ [flagByte f.more]

/-- READ_FAULT (R136). -/
def execReadFault (p : Port) (tag : Byte) (payload : List Byte) (s : State) : Host.Outcome State Fault Refusal :=
  .next (s.executes p ⟨tag, 0x61, payload⟩ [] parseEmpty noZone fun s _ => (s, .done s.fault.report))

/-- The fault record after the flags named are released (R137). -/
def FaultRecord.release (f : FaultRecord) (kinds : FaultSet) : FaultRecord :=
  let flags := f.flags.without kinds
  if flags.any then { f with flags := flags } else ⟨flags, f.mask, none, none, 0, false⟩

/-- RELEASE_FAULT (R137). The three flags after the command are sent as one set byte (DESIGN CHOICE, log entry 27). -/
def execReleaseFault (p : Port) (tag : Byte) (payload : List Byte) (s : State) : Host.Outcome State Fault Refusal :=
  .next (s.executes p ⟨tag, 0x62, payload⟩ [] parse1 noZone fun s b =>
    let f := s.fault.release (faultSetOf b)
    ({ s with fault := f }, .done [f.flags.setByte]))

def judgeSetFaultMask (p : Port) (s : State) (b : Byte) : State × Answer :=
  s.unless (telemetryOnly p)
    ({ s with fault := { s.fault with mask := faultSetOf b } }, .done [(faultSetOf b).setByte])

/-- SET_FAULT_MASK (R138). -/
def execSetFaultMask (p : Port) (tag : Byte) (payload : List Byte) (s : State) : Host.Outcome State Fault Refusal :=
  .next (s.executes p ⟨tag, 0x63, payload⟩ [] parse1 noZone (judgeSetFaultMask p))

/-! ### Watch windows and capture (R141, R146, R147) -/

/-- SET WINDOW's payload. -/
structure WindowSetting where
  window  : Byte
  lower   : Nat
  upper   : Nat
  sources : Byte
  kinds   : Byte
  action  : Byte
deriving DecidableEq, Repr

def parseSetWindow : List Byte → Option WindowSetting
  | [w, l1, l0, u1, u0, src, k, a] => some ⟨w, number16 l1 l0, number16 u1 u0, src, k, a⟩
  | _ => none

/-- The five fields of a window, as SET WINDOW and READ WATCH give them. -/
def Window.report (w : Window) : List Byte :=
  bytes16 w.lower.val ++ bytes16 w.upper.val ++ [w.sources.setByte, w.kinds.setByte, w.action.code]

/-- The window a setting describes, if every field is of its range (R141). -/
def WindowSetting.window? (a : WindowSetting) : Option Window :=
  match lampOf? a.lower, lampOf? a.upper, portSetOf? a.sources, kindSetOf? a.kinds, WindowAction.ofCode? a.action with
  | some l, some u, some src, some k, some act => some ⟨l, u, src, k, act⟩
  | _, _, _, _, _ => none

def judgeSetWindow (s : State) (a : WindowSetting) : State × Answer :=
  match windowNoOf? a.window, a.window? with
  | some n, some w =>
    ({ s with windows := s.windows.set n.val w n.isLt }, .done (a.window :: w.report))
  | _, _ => (s, ⟨.range, [a.window]⟩)

/-- SET_WINDOW (R141). -/
def execSetWindow (p : Port) (tag : Byte) (payload : List Byte) (s : State) : Host.Outcome State Fault Refusal :=
  .next (s.executes p ⟨tag, 0x70, payload⟩ [] parseSetWindow noZone judgeSetWindow)

/-- The watch capture as READ WATCH gives it (R145, R146). -/
def Capture.report (c : Capture) : List Byte :=
  (match c.hit with
  | some h =>
    [Config.captureFrozen, byte h.window.val, portCode h.port, h.code, h.scope, h.kind.code] ++ bytes16 h.lamp.val
      ++ [outcomeCode h.blocked] ++ bytes32 h.frame
  | none =>
    [Config.captureFree, 0xFF, portOrNone none, 0xFF, 0xFF, Config.watchKindNone] ++ bytes16 absentLamp
      ++ [Config.watchOutcomeNone] ++ bytes32 0) ++ [flagByte c.more]

/-- READ_WATCH (R146). -/
def execReadWatch (p : Port) (tag : Byte) (payload : List Byte) (s : State) : Host.Outcome State Fault Refusal :=
  .next (s.executes p ⟨tag, 0x71, payload⟩ [] parseEmpty noZone fun s _ =>
    (s, .done (s.capture.report ++ s.windows.toList.flatMap fun w => w.report ++ [flagByte w.active])))

/-- RELEASE_WATCH (R147). -/
def execReleaseWatch (p : Port) (tag : Byte) (payload : List Byte) (s : State) : Host.Outcome State Fault Refusal :=
  .next (s.executes p ⟨tag, 0x72, payload⟩ [] parseEmpty noZone fun s _ =>
    ({ s with capture := ⟨none, false⟩ }, .done []))

/-! ### Notices (R165, R167) -/

def judgeSetRouting (s : State) (a : Byte × Byte) : State × Answer :=
  match NoticeKind.ofCode? a.1, portSetOf? a.2 with
  | some k, some ports =>
    ({ s with routing := s.routing.set k.index.val ports k.index.isLt }, .done [a.1, ports.setByte])
  | _, _ => (s, ⟨.range, [a.1]⟩)

/-- SET_ROUTING (R165). -/
def execSetRouting (p : Port) (tag : Byte) (payload : List Byte) (s : State) : Host.Outcome State Fault Refusal :=
  .next (s.executes p ⟨tag, 0x90, payload⟩ [] parse2 noZone judgeSetRouting)

/-- TAKE_NOTICES (R167). -/
def execTakeNotices (p : Port) (tag : Byte) (payload : List Byte) (s : State) : Host.Outcome State Fault Refusal :=
  .next (s.executes p ⟨tag, 0x91, payload⟩ [] parseEmpty noZone fun s _ =>
    ({ s with notices := s.notices.set p (Vector.replicate 10 false) }, .done (noticeSetBytes (s.notices.get p))))

/-! ### Activity counters (R170) -/

/-- SET COUNTER's payload. -/
structure CounterSetting where
  counter : Byte
  event   : Byte
  ports   : Byte
  zone    : Byte
  mode    : Byte
deriving DecidableEq, Repr

def parseSetCounter : List Byte → Option CounterSetting
  | [c, e, src, z, m] => some ⟨c, e, src, z, m⟩
  | _ => none

/-- The counter a setting describes, its value 0, if every field is of its range (R170). -/
def CounterSetting.counter? (a : CounterSetting) : Option Counter :=
  match CounterEvent.ofCode? a.event, portSetOf? a.ports, zoneFilterOf? a.zone, CounterMode.ofCode? a.mode with
  | some e, some ports, some z, some m => some ⟨e, ports, z, m, 0⟩
  | _, _, _, _ => none

/-- The four settings of a counter, as replies give them. -/
def Counter.settings (c : Counter) : List Byte := [c.event.code, c.ports.setByte, zoneFilterCode c.zone, c.mode.code]

def judgeSetCounter (s : State) (a : CounterSetting) : State × Answer :=
  match counterNoOf? a.counter, a.counter? with
  | some n, some c =>
    ({ s with counters := s.counters.set n.val c n.isLt }, .done (a.counter :: c.settings))
  | _, _ => (s, ⟨.range, [a.counter]⟩)

/-- SET_COUNTER (R170). -/
def execSetCounter (p : Port) (tag : Byte) (payload : List Byte) (s : State) : Host.Outcome State Fault Refusal :=
  .next (s.executes p ⟨tag, 0x92, payload⟩ [] parseSetCounter noZone judgeSetCounter)

/-- READ_COUNTERS (R170). -/
def execReadCounters (p : Port) (tag : Byte) (payload : List Byte) (s : State) : Host.Outcome State Fault Refusal :=
  .next (s.executes p ⟨tag, 0x93, payload⟩ [] parseEmpty noZone fun s _ =>
    (s, .done (s.counters.toList.flatMap fun c => c.settings ++ bytes32 c.value)))

end Sys2Proof.Machine
end

