-- ==== Sys2Proof/Machine/Zones.lean ====
section
/-! DEFINITION. The zone commands (2.4): DEFINE ZONE, DISABLE ZONE, CLAIM ZONE, RELEASE ZONE, MARK CURRENT, READ ZONE. -/

namespace Sys2Proof.Machine

/-- The zone a command names, as its attribution (R168). -/
def zoneNamed (_ : State) (z : Byte) : Option ZoneNo := zoneNoOf? z

/-- The reply of a zone command that is DONE: the zone, and its owner after the command (R41). -/
def State.zoneReply (s : State) (z : ZoneNo) : Answer := .done [byte z.val, portOrNone s.zones[z].owner]

/-- A zone refusal that names the zone and its owner (R41). -/
def State.zoneRefusal (s : State) (status : Status) (z : ZoneNo) : Answer :=
  ⟨status, [byte z.val, portOrNone s.zones[z].owner]⟩

/-- A zone record replaced, and the DONE reply. -/
def State.zoneDone (s : State) (z : ZoneNo) (r : ZoneRecord) : State × Answer :=
  (s.setZone z r, (s.setZone z r).zoneReply z)

/-- Whether a zone is owned by the telemetry port other than `p` (R32). -/
def ZoneRecord.ownedByOther (r : ZoneRecord) (p : Port) : Bool := r.owner.isSome && r.owner ≠ some p

/-! ### DEFINE ZONE (R31 to R34) -/

/-- DEFINE ZONE's payload: zone, base, size, stale treatment, summary lamp. -/
structure ZoneDefinition where
  zone      : Byte
  base      : Nat
  size      : Nat
  treatment : Byte
  summary   : Nat
deriving DecidableEq, Repr

def parseDefineZone : List Byte → Option ZoneDefinition
  | [z, b1, b0, s1, s0, t, m1, m0] => some ⟨z, number16 b1 b0, number16 s1 s0, t, number16 m1 m0⟩
  | _ => none

/-- The sizes a zone can have (2.1). -/
def zoneSizes : List Nat := [8, 16, 32, 64, 128, 256, 512, 1024, 2048, 4096]

/-- The summary lamp a field gives: absent, or a lamp; none where it is neither (R31). -/
def summaryOf? (n : Nat) : Option (Option Lamp) := if n = absentLamp then some none else (lampOf? n).map some

/-- Whether a base and size are those of a zone (R26, R31). -/
def rangeOk (base size : Nat) : Bool := size ∈ zoneSizes && base ≤ 4095 && base % size = 0

/-- Whether two ranges overlap (R26). -/
def overlap (base₁ size₁ base₂ size₂ : Nat) : Bool := base₁ < base₂ + size₂ && base₂ < base₁ + size₁

/-- The lowest-numbered enabled zone, other than the one named, whose range overlaps (R32). -/
def State.overlapping (s : State) (z : ZoneNo) (base size : Nat) : Option ZoneNo :=
  (List.finRange 64).find? fun k => k ≠ z && s.zones[k].enabled && overlap base size s.zones[k].base s.zones[k].size

/-- The zone record a definition gives: owner kept, stale, counts recounted (R33). -/
def State.defined (s : State) (z : ZoneNo) (base size : Nat) (t : Treatment) (summary : Option Lamp) : ZoneRecord where
  enabled   := true
  base      := base
  size      := size
  owner     := s.zones[z].owner
  stale     := true
  treatment := t
  summary   := summary
  unack     := s.countUnack base size
  standing  := s.countStanding base size

def judgeDefineZone (p : Port) (s : State) (a : ZoneDefinition) : State × Answer :=
  s.unless (telemetryOnly p)
    (match zoneNoOf? a.zone, Treatment.ofCode? a.treatment, summaryOf? a.summary with
    | some z, some t, some m =>
      if !rangeOk a.base a.size then (s, ⟨.range, [a.zone]⟩)
      else if s.zones[z].ownedByOther p then (s, s.zoneRefusal .owned z)
      else match s.overlapping z a.base a.size with
        | some k => (s, ⟨.overlap, [byte k.val]⟩)
        | none => s.zoneDone z (s.defined z a.base a.size t m)
    | _, _, _ => (s, ⟨.range, [a.zone]⟩))

/-- DEFINE_ZONE (R31 to R33). -/
def execDefineZone (p : Port) (tag : Byte) (payload : List Byte) (s : State) : Host.Outcome State Fault Refusal :=
  .next (s.executes p ⟨tag, 0x10, payload⟩ [] parseDefineZone (fun _ a => zoneNoOf? a.zone) (judgeDefineZone p))

/-! ### The commands that carry a zone number alone -/

/-- A zone command judged as far as RANGE: its ports, then its zone number (R160, R41). -/
def State.onZone (s : State) (role : Option Answer) (b : Byte) (rest : ZoneNo → State × Answer) : State × Answer :=
  s.unless role (match zoneNoOf? b with
    | none => (s, ⟨.range, [b]⟩)
    | some z => rest z)

def judgeDisableZone (p : Port) (s : State) (b : Byte) : State × Answer :=
  s.onZone (telemetryOnly p) b fun z =>
    if s.zones[z].ownedByOther p then (s, s.zoneRefusal .owned z)
    else s.zoneDone z { s.zones[z] with
      enabled := false, owner := none, stale := true, summary := none, unack := 0, standing := 0 }

/-- DISABLE_ZONE (R35). -/
def execDisableZone (p : Port) (tag : Byte) (payload : List Byte) (s : State) : Host.Outcome State Fault Refusal :=
  .next (s.executes p ⟨tag, 0x11, payload⟩ [] parse1 zoneNamed (judgeDisableZone p))

def judgeClaimZone (p : Port) (s : State) (b : Byte) : State × Answer :=
  s.onZone (telemetryOnly p) b fun z =>
    if !s.zones[z].enabled then (s, ⟨.range, [b]⟩)
    else if (s.links.get p).state = .silent then (s, ⟨.silent, [b]⟩)
    else if s.zones[z].ownedByOther p then (s, s.zoneRefusal .held z)
    else s.zoneDone z { s.zones[z] with owner := some p }

/-- CLAIM_ZONE (R36). -/
def execClaimZone (p : Port) (tag : Byte) (payload : List Byte) (s : State) : Host.Outcome State Fault Refusal :=
  .next (s.executes p ⟨tag, 0x12, payload⟩ [] parse1 zoneNamed (judgeClaimZone p))

def judgeReleaseZone (p : Port) (s : State) (b : Byte) : State × Answer :=
  s.onZone (telemetryOnly p) b fun z =>
    if s.zones[z].ownedByOther p then (s, s.zoneRefusal .notOwner z)
    else s.zoneDone z { s.zones[z] with owner := none }

/-- RELEASE_ZONE (R38). -/
def execReleaseZone (p : Port) (tag : Byte) (payload : List Byte) (s : State) : Host.Outcome State Fault Refusal :=
  .next (s.executes p ⟨tag, 0x13, payload⟩ [] parse1 zoneNamed (judgeReleaseZone p))

def judgeMarkCurrent (p : Port) (s : State) (b : Byte) : State × Answer :=
  s.onZone (telemetryOnly p) b fun z =>
    if s.zones[z].owner = some p then s.zoneDone z { s.zones[z] with stale := false }
    else (s, s.zoneRefusal .notOwner z)

/-- MARK_CURRENT (R39). -/
def execMarkCurrent (p : Port) (tag : Byte) (payload : List Byte) (s : State) : Host.Outcome State Fault Refusal :=
  .next (s.executes p ⟨tag, 0x14, payload⟩ [] parse1 zoneNamed (judgeMarkCurrent p))

/-- Every field of a zone record, in R40's order, the owner among them. -/
def ZoneRecord.report (r : ZoneRecord) : List Byte :=
  flagByte r.enabled :: bytes16 r.base ++ bytes16 r.size ++ [portOrNone r.owner, flagByte r.stale, r.treatment.code]
    ++ lampBytes r.summary ++ bytes16 r.unack ++ bytes16 r.standing

/-- READ ZONE judged: its DONE reply carries the zone, as R41 has it for every zone command, and then the fields of R40,
which give the owner. That the zone stands first, and the owner once, is the model's reading (DEDUCED, log entry 16). -/
def judgeReadZone (s : State) (b : Byte) : State × Answer :=
  s.onZone none b fun z => (s, .done (b :: s.zones[z].report))

/-- READ_ZONE (R40). -/
def execReadZone (p : Port) (tag : Byte) (payload : List Byte) (s : State) : Host.Outcome State Fault Refusal :=
  .next (s.executes p ⟨tag, 0x15, payload⟩ [] parse1 zoneNamed judgeReadZone)

end Sys2Proof.Machine
end

