-- ==== Sys2Proof/Machine/Dispatch.lean ====
section
/-! DEFINITION. Which meaning each command has: one arm per constructor of `Instr`. -/

namespace Sys2Proof.Machine

-- The effect of one command on the part, but for the queue of waiting commands.
def exec (i : Instr) (s : State) : Host.Outcome State Fault Refusal :=
  match i with
  | .powerUpReset rate1 rate0 lampTest => Sys2Proof.Machine.execPowerUpReset rate1 rate0 lampTest s
  | .validFrameArrival port tag code payload => Sys2Proof.Machine.execValidFrameArrival port tag code payload s
  | .frameDiscard port byte framingError => Sys2Proof.Machine.execFrameDiscard port byte framingError s
  | .gapTimerExpiry port => Sys2Proof.Machine.execGapTimerExpiry port s
  | .portReset port => Sys2Proof.Machine.execPortReset port s
  | .transmitReply port => Sys2Proof.Machine.execTransmitReply port s
  | .replySent port => Sys2Proof.Machine.execReplySent port s
  | .unknownCommand port tag code payload => Sys2Proof.Machine.execUnknownCommand port tag code payload s
  | .writeAspects port tag payload upsets => Sys2Proof.Machine.execWriteAspects port tag payload upsets s
  | .setAttributes port tag payload upsets => Sys2Proof.Machine.execSetAttributes port tag payload upsets s
  | .forceLamp port tag payload upsets => Sys2Proof.Machine.execForceLamp port tag payload upsets s
  | .unforce port tag payload upsets => Sys2Proof.Machine.execUnforce port tag payload upsets s
  | .readLamps port tag payload upsets => Sys2Proof.Machine.execReadLamps port tag payload upsets s
  | .defineZone port tag payload => Sys2Proof.Machine.execDefineZone port tag payload s
  | .disableZone port tag payload => Sys2Proof.Machine.execDisableZone port tag payload s
  | .claimZone port tag payload => Sys2Proof.Machine.execClaimZone port tag payload s
  | .releaseZone port tag payload => Sys2Proof.Machine.execReleaseZone port tag payload s
  | .markCurrent port tag payload => Sys2Proof.Machine.execMarkCurrent port tag payload s
  | .readZone port tag payload => Sys2Proof.Machine.execReadZone port tag payload s
  | .present port tag payload => Sys2Proof.Machine.execPresent port tag payload s
  | .setTimeout port tag payload => Sys2Proof.Machine.execSetTimeout port tag payload s
  | .setAllowance port tag payload => Sys2Proof.Machine.execSetAllowance port tag payload s
  | .readLink port tag payload => Sys2Proof.Machine.execReadLink port tag payload s
  | .postHandover port tag payload => Sys2Proof.Machine.execPostHandover port tag payload s
  | .takeHandover port tag payload => Sys2Proof.Machine.execTakeHandover port tag payload s
  | .silenceTimerExpiry port => Sys2Proof.Machine.execSilenceTimerExpiry port s
  | .raiseAlarm port tag payload upsets => Sys2Proof.Machine.execRaiseAlarm port tag payload upsets s
  | .clearAlarm port tag payload upsets => Sys2Proof.Machine.execClearAlarm port tag payload upsets s
  | .acknowledge port tag payload upsets => Sys2Proof.Machine.execAcknowledge port tag payload upsets s
  | .silenceHorn port tag payload => Sys2Proof.Machine.execSilenceHorn port tag payload s
  | .startScan port tag payload upsets => Sys2Proof.Machine.execStartScan port tag payload upsets s
  | .stopScan port tag payload => Sys2Proof.Machine.execStopScan port tag payload s
  | .setLevels port tag payload => Sys2Proof.Machine.execSetLevels port tag payload s
  | .setTiming port tag payload => Sys2Proof.Machine.execSetTiming port tag payload s
  | .holdBoard port tag payload => Sys2Proof.Machine.execHoldBoard port tag payload s
  | .releaseHold port tag payload => Sys2Proof.Machine.execReleaseHold port tag payload s
  | .holdLimitExpiry => Sys2Proof.Machine.execHoldLimitExpiry s
  | .lampTestStart port tag payload => Sys2Proof.Machine.execLampTestStart port tag payload s
  | .lampTestStop port tag payload => Sys2Proof.Machine.execLampTestStop port tag payload s
  | .lampTestInputAssertion => Sys2Proof.Machine.execLampTestInputAssertion s
  | .lampTestInputRelease => Sys2Proof.Machine.execLampTestInputRelease s
  | .lampTestLimitExpiry => Sys2Proof.Machine.execLampTestLimitExpiry s
  | .frameStart upsets => Sys2Proof.Machine.execFrameStart upsets s
  | .subFrame => Sys2Proof.Machine.execSubFrame s
  | .frameEnd => Sys2Proof.Machine.execFrameEnd s
  | .stringFrameEnd string answering sensed upsets => Sys2Proof.Machine.execStringFrameEnd string answering sensed upsets s
  | .setString port tag payload upsets => Sys2Proof.Machine.execSetString port tag payload upsets s
  | .setSupervision port tag payload => Sys2Proof.Machine.execSetSupervision port tag payload s
  | .readStrings port tag payload => Sys2Proof.Machine.execReadStrings port tag payload s
  | .takeFailures port tag payload => Sys2Proof.Machine.execTakeFailures port tag payload s
  | .readFault port tag payload => Sys2Proof.Machine.execReadFault port tag payload s
  | .releaseFault port tag payload => Sys2Proof.Machine.execReleaseFault port tag payload s
  | .setFaultMask port tag payload => Sys2Proof.Machine.execSetFaultMask port tag payload s
  | .setWindow port tag payload => Sys2Proof.Machine.execSetWindow port tag payload s
  | .readWatch port tag payload => Sys2Proof.Machine.execReadWatch port tag payload s
  | .releaseWatch port tag payload => Sys2Proof.Machine.execReleaseWatch port tag payload s
  | .setArbitration port tag payload => Sys2Proof.Machine.execSetArbitration port tag payload s
  | .setRouting port tag payload => Sys2Proof.Machine.execSetRouting port tag payload s
  | .takeNotices port tag payload => Sys2Proof.Machine.execTakeNotices port tag payload s
  | .setCounter port tag payload => Sys2Proof.Machine.execSetCounter port tag payload s
  | .readCounters port tag payload => Sys2Proof.Machine.execReadCounters port tag payload s
  | .byteTaken port byte framingError => Sys2Proof.Machine.execByteTaken port byte framingError s
  | .resetPinAsserted => Sys2Proof.Machine.execResetPinAsserted s
  | .lineReturnedToMark port => Sys2Proof.Machine.execLineReturnedToMark port s

end Sys2Proof.Machine
end

