-- ==== Sys2Proof/Safety.lean ====
section
/-! DEFINITION. The terms the claims use: which command a taking is of, the payload lengths of the code table, and the
invariants that every step is claimed to keep. -/

namespace Sys2Proof

open Sys2Proof.Machine

/-- The command whose taking a term is, with the port it is taken from; none for the other events. -/
def Instr.command? : Instr → Option (Port × Command)
  | .unknownCommand p tag code payload => if code ∈ knownCodes then none else some (p, ⟨tag, code, payload⟩)
  | .writeAspects p tag payload _ => some (p, ⟨tag, 0x01, payload⟩)
  | .setAttributes p tag payload _ => some (p, ⟨tag, 0x02, payload⟩)
  | .forceLamp p tag payload _ => some (p, ⟨tag, 0x03, payload⟩)
  | .unforce p tag payload _ => some (p, ⟨tag, 0x04, payload⟩)
  | .readLamps p tag payload _ => some (p, ⟨tag, 0x05, payload⟩)
  | .defineZone p tag payload => some (p, ⟨tag, 0x10, payload⟩)
  | .disableZone p tag payload => some (p, ⟨tag, 0x11, payload⟩)
  | .claimZone p tag payload => some (p, ⟨tag, 0x12, payload⟩)
  | .releaseZone p tag payload => some (p, ⟨tag, 0x13, payload⟩)
  | .markCurrent p tag payload => some (p, ⟨tag, 0x14, payload⟩)
  | .readZone p tag payload => some (p, ⟨tag, 0x15, payload⟩)
  | .present p tag payload => some (p, ⟨tag, 0x20, payload⟩)
  | .setTimeout p tag payload => some (p, ⟨tag, 0x21, payload⟩)
  | .setAllowance p tag payload => some (p, ⟨tag, 0x22, payload⟩)
  | .readLink p tag payload => some (p, ⟨tag, 0x23, payload⟩)
  | .postHandover p tag payload => some (p, ⟨tag, 0x24, payload⟩)
  | .takeHandover p tag payload => some (p, ⟨tag, 0x25, payload⟩)
  | .raiseAlarm p tag payload _ => some (p, ⟨tag, 0x30, payload⟩)
  | .clearAlarm p tag payload _ => some (p, ⟨tag, 0x31, payload⟩)
  | .acknowledge p tag payload _ => some (p, ⟨tag, 0x32, payload⟩)
  | .silenceHorn p tag payload => some (p, ⟨tag, 0x33, payload⟩)
  | .startScan p tag payload _ => some (p, ⟨tag, 0x40, payload⟩)
  | .stopScan p tag payload => some (p, ⟨tag, 0x41, payload⟩)
  | .setLevels p tag payload => some (p, ⟨tag, 0x42, payload⟩)
  | .setTiming p tag payload => some (p, ⟨tag, 0x43, payload⟩)
  | .holdBoard p tag payload => some (p, ⟨tag, 0x44, payload⟩)
  | .releaseHold p tag payload => some (p, ⟨tag, 0x45, payload⟩)
  | .lampTestStart p tag payload => some (p, ⟨tag, 0x46, payload⟩)
  | .lampTestStop p tag payload => some (p, ⟨tag, 0x47, payload⟩)
  | .setString p tag payload _ => some (p, ⟨tag, 0x50, payload⟩)
  | .setSupervision p tag payload => some (p, ⟨tag, 0x51, payload⟩)
  | .readStrings p tag payload => some (p, ⟨tag, 0x52, payload⟩)
  | .takeFailures p tag payload => some (p, ⟨tag, 0x60, payload⟩)
  | .readFault p tag payload => some (p, ⟨tag, 0x61, payload⟩)
  | .releaseFault p tag payload => some (p, ⟨tag, 0x62, payload⟩)
  | .setFaultMask p tag payload => some (p, ⟨tag, 0x63, payload⟩)
  | .setWindow p tag payload => some (p, ⟨tag, 0x70, payload⟩)
  | .readWatch p tag payload => some (p, ⟨tag, 0x71, payload⟩)
  | .releaseWatch p tag payload => some (p, ⟨tag, 0x72, payload⟩)
  | .setArbitration p tag payload => some (p, ⟨tag, 0x80, payload⟩)
  | .setRouting p tag payload => some (p, ⟨tag, 0x90, payload⟩)
  | .takeNotices p tag payload => some (p, ⟨tag, 0x91, payload⟩)
  | .setCounter p tag payload => some (p, ⟨tag, 0x92, payload⟩)
  | .readCounters p tag payload => some (p, ⟨tag, 0x93, payload⟩)
  | .powerUpReset .. | .validFrameArrival .. | .frameDiscard .. | .gapTimerExpiry .. | .portReset ..
  | .transmitReply .. | .replySent .. | .silenceTimerExpiry .. | .holdLimitExpiry | .lampTestInputAssertion
  | .lampTestInputRelease | .lampTestLimitExpiry | .frameStart .. | .subFrame | .frameEnd | .stringFrameEnd ..
  | .byteTaken .. | .resetPinAsserted | .lineReturnedToMark .. => none

/-- The upsets an event carries. -/
def Instr.upsets : Instr → List Upset
  | .writeAspects _ _ _ u | .setAttributes _ _ _ u | .forceLamp _ _ _ u | .unforce _ _ _ u | .readLamps _ _ _ u
  | .raiseAlarm _ _ _ u | .clearAlarm _ _ _ u | .acknowledge _ _ _ u | .startScan _ _ _ u | .frameStart u
  | .stringFrameEnd _ _ _ u | .setString _ _ _ u => u
  | .powerUpReset .. | .validFrameArrival .. | .frameDiscard .. | .gapTimerExpiry .. | .portReset ..
  | .transmitReply .. | .replySent .. | .unknownCommand .. | .defineZone .. | .disableZone .. | .claimZone ..
  | .releaseZone .. | .markCurrent .. | .readZone .. | .present .. | .setTimeout .. | .setAllowance ..
  | .readLink .. | .postHandover .. | .takeHandover .. | .silenceTimerExpiry .. | .silenceHorn ..
  | .stopScan .. | .setLevels .. | .setTiming .. | .holdBoard .. | .releaseHold .. | .holdLimitExpiry
  | .lampTestStart .. | .lampTestStop .. | .lampTestInputAssertion | .lampTestInputRelease
  | .lampTestLimitExpiry | .subFrame | .frameEnd | .setSupervision .. | .readStrings .. | .takeFailures ..
  | .readFault .. | .releaseFault .. | .setFaultMask .. | .setWindow .. | .readWatch .. | .releaseWatch ..
  | .setArbitration .. | .setRouting .. | .takeNotices .. | .setCounter .. | .readCounters .. | .byteTaken ..
  | .resetPinAsserted | .lineReturnedToMark .. => []

end Sys2Proof

namespace Sys2Proof.Machine

/-! ### The code table's payload lengths (9.2) -/

/-- The codes that carry no payload. -/
def emptyCodes : List Byte :=
  [0x20, 0x23, 0x25, 0x33, 0x40, 0x41, 0x44, 0x45, 0x46, 0x47, 0x52, 0x61, 0x71, 0x72, 0x91, 0x93]

/-- The codes with a payload of one byte. -/
def oneByteCodes : List Byte := [0x11, 0x12, 0x13, 0x14, 0x15, 0x22, 0x60, 0x62, 0x63, 0x80]

/-- The codes with a payload of two bytes. -/
def twoByteCodes : List Byte := [0x04, 0x21, 0x24, 0x50, 0x51, 0x90]

/-- The codes with a payload of three bytes. -/
def threeByteCodes : List Byte := [0x03, 0x05, 0x30, 0x31]

/-- Whether a payload has the length the code table gives for the code, for the count or for the scope (R13, R68, R160).
A code that is not in the table passes. -/
def lengthOk (code : Byte) (payload : List Byte) : Bool :=
  if code = 0x01 then payload.length ≥ 3 && payload.length = 3 + (payload.getD 2 0).toNat
  else if code = 0x02 then payload.length ≥ 3 && payload.length = 3 + 4 * (payload.getD 2 0).toNat
  else if code = 0x10 || code = 0x70 then payload.length = 8
  else if code = 0x32 then
    if payload.getD 0 0 = 0x01 then payload.length = 4
    else if payload.getD 0 0 = 0x02 then payload.length = 2
    else if payload.getD 0 0 = 0x03 then payload.length = 1
    else payload.length = 1 || payload.length = 2 || payload.length = 4
  else if code = 0x42 then payload.length = 10
  else if code = 0x43 || code = 0x92 then payload.length = 5
  else if code ∈ emptyCodes then payload.length = 0
  else if code ∈ oneByteCodes then payload.length = 1
  else if code ∈ twoByteCodes then payload.length = 2
  else if code ∈ threeByteCodes then payload.length = 3
  else true

/-! ### What a taking is judged by -/

/-- The lamps whose records are read for a taking, in the state in which the command has left its queue (R160, log
entry 11). -/
def State.named (s : State) : Instr → List Lamp
  | .writeAspects _ _ payload _ => (parseWriteAspects payload).elim [] fun a => a.1.lamps
  | .setAttributes _ _ payload _ => (parseSetAttributes payload).elim [] fun a => a.1.lamps
  | .forceLamp _ _ payload _ => (parseForceLamp payload).elim [] fun a => (lampOf? a.1).toList
  | .unforce _ _ payload _ => (parseUnforce payload).elim [] unforceLamps
  | .readLamps _ _ payload _ | .raiseAlarm _ _ payload _ | .clearAlarm _ _ payload _ =>
    (parseBatch payload).elim [] Batch.lamps
  | .acknowledge _ _ payload _ => (parseAcknowledge payload).elim [] s.ackLamps
  | .powerUpReset .. | .validFrameArrival .. | .frameDiscard .. | .gapTimerExpiry .. | .portReset ..
  | .transmitReply .. | .replySent .. | .unknownCommand .. | .defineZone .. | .disableZone .. | .claimZone ..
  | .releaseZone .. | .markCurrent .. | .readZone .. | .present .. | .setTimeout .. | .setAllowance ..
  | .readLink .. | .postHandover .. | .takeHandover .. | .silenceTimerExpiry .. | .silenceHorn ..
  | .startScan .. | .stopScan .. | .setLevels .. | .setTiming .. | .holdBoard .. | .releaseHold ..
  | .holdLimitExpiry | .lampTestStart .. | .lampTestStop .. | .lampTestInputAssertion | .lampTestInputRelease
  | .lampTestLimitExpiry | .frameStart .. | .subFrame | .frameEnd | .stringFrameEnd .. | .setString ..
  | .setSupervision .. | .readStrings .. | .takeFailures .. | .readFault .. | .releaseFault ..
  | .setFaultMask .. | .setWindow .. | .readWatch .. | .releaseWatch .. | .setArbitration .. | .setRouting ..
  | .takeNotices .. | .setCounter .. | .readCounters .. | .byteTaken .. | .resetPinAsserted
  | .lineReturnedToMark .. => []

/-- The state in which a taken command is judged: upsets landed, the command out of its queue and its port last in the
served order, and the records it names read (R158, R160). -/
def State.judgedIn (s : State) (p : Port) (c : Instr) : State :=
  let t := (s.land c.upsets).takeHead p
  t.checkLamps (t.named c)

/-- The zone that the taking of a command is attributed to (R168). -/
def State.attributedZone (s : State) (code : Byte) (payload : List Byte) : Option ZoneNo :=
  let byteAt (k : Nat) : Byte := payload.getD k 0
  let zoneOfLamp (k : Nat) : Option ZoneNo :=
    if number16 (byteAt k) (byteAt (k + 1)) < 4096 then s.zoneOf (number16 (byteAt k) (byteAt (k + 1))) else none
  if lengthOk code payload = false then none
  else if code ∈ [0x10, 0x11, 0x12, 0x13, 0x14, 0x15] then zoneNoOf? (byteAt 0)
  else if code ∈ [0x01, 0x02, 0x03, 0x04, 0x05, 0x30, 0x31] then zoneOfLamp 0
  else if code = 0x32 ∧ byteAt 0 = 0x01 then zoneOfLamp 1
  else if code = 0x32 ∧ byteAt 0 = 0x02 then zoneNoOf? (byteAt 1)
  else none

end Sys2Proof.Machine

namespace Sys2Proof

open Sys2Proof.Machine

/-- A taking that ends in this refusal and changes nothing else (R161, R162). -/
def Instr.refusedWith (c : Instr) (s : State) (p : Port) (cmd : Command) (a : Answer) : Prop :=
  exec c s = .next ((s.judgedIn p c).conclude p cmd (s.attributedZone cmd.code cmd.payload) a)

end Sys2Proof

namespace Sys2Proof.Machine

/-- The codes that port D may not send (9.2). -/
def telemetryCodes : List Byte :=
  [0x01, 0x02, 0x10, 0x11, 0x12, 0x13, 0x14, 0x24, 0x25, 0x30, 0x31, 0x40, 0x41, 0x43, 0x50, 0x51, 0x63, 0x80]

/-- The codes that only port D may send (9.2). -/
def deskCodes : List Byte := [0x03, 0x04, 0x33, 0x42, 0x46, 0x47]

/-- Whether a port may send a command, or its scope (R160). -/
def roleOk (p : Port) (code : Byte) (payload : List Byte) : Bool :=
  if code ∈ telemetryCodes then p ≠ .d
  else if code ∈ deskCodes then p = .d
  else if code = 0x32 && payload.getD 0 0 = 0x03 then p = .d
  else true

/-- No window with action BLOCK matches: the command passes the watch check (R143). -/
def State.passes (s : State) (p : Port) (k : WatchKind) (low high : Nat) : Prop :=
  ∀ h ∈ s.matches p k low high, s.windows[h.1].action = .record

/-- The capture of a command that has been applied, if it matched a window (R143, R144). -/
def State.hitRecorded (s : State) (p : Port) (code scope : Byte) (k : WatchKind) (low high : Nat) : State :=
  match (s.matches p k low high).head? with
  | none => s
  | some h => s.recordHit ⟨h.1, p, code, scope, k, h.2, false, s.frameCount⟩

/-- A record after a checking read (R131, R132). -/
def LampRecord.checked (r : LampRecord) : LampRecord :=
  match r.integrity with
  | .clean => r
  | .single => { r with integrity := .clean }
  | .double => ⟨.dark, none, .normal, ⟨false, .quiet, 0, true⟩, .unknown, 0, true, ⟨.dark, 0⟩, .clean⟩

/-- Bytes taken by a receiver one after another, without framing errors: the receiver they end in and what they brought
about. -/
def Receiver.feed (rx : Receiver) (bs : List Byte) : Receiver × List RxOutput :=
  bs.foldl (fun a b => ((a.1.take b false).1, a.2 ++ (a.1.take b false).2)) (rx, [])

/-- ACKNOWLEDGE applied to some lamps (R69): each takes its transition, its zone's counts follow, every acknowledgement
change is counted, and the horn is settled; then the watch capture and the reply. `carried` is what the reply gives after
the scope. -/
def acknowledges (c : Instr) (s : State) (p : Port) (cmd : Command) (scope : Scope) (carried : List Byte)
    (lamps : List Lamp) (low high : Nat) : Prop :=
  let r := s.judgedIn p c
  let awaits (a : AlarmState) : Bool := a = .new || a = .returned
  ∃ (L : Vector LampRecord 4096) (Z : Vector ZoneRecord 64) (C : Vector Counter 4),
    (∀ i : Lamp, L[i] = if i ∈ lamps then
      { r.lamps[i] with alarm := match r.lamps[i].alarm with
        | .normal => .normal | .new => .standing | .standing => .standing | .returned => .normal }
      else r.lamps[i]) ∧
    (∀ z : ZoneNo, Z[z] = { r.zones[z] with
      unack := r.zones[z].unack - lamps.countP fun i => s.zoneOf i.val = some z && awaits r.lamps[i].alarm
      standing := r.zones[z].standing + lamps.countP fun i => s.zoneOf i.val = some z && r.lamps[i].alarm = .new }) ∧
    (∀ j : CounterNo, C[j] = Counter.bump^[lamps.countP fun i =>
      awaits r.lamps[i].alarm && r.counters[j].counts .acks (some p) (s.zoneOf i.val)] r.counters[j]) ∧
    exec c s = .next (((State.settleHorn { r with lamps := L, zones := Z, counters := C } false).hitRecorded
      p 0x32 scope.code .ack low high).conclude p cmd (s.attributedZone cmd.code cmd.payload)
      (.done (scope.code :: carried ++ bytes16 (lamps.countP fun i => awaits r.lamps[i].alarm))))

/-- A taking that a matching BLOCK window refuses (R143, R144, R149): BLOCKED, naming the lowest-numbered BLOCK window
matched and its lowest touched lamp; the hit, on the lowest-numbered window matched, is recorded, and nothing is applied. -/
def blocked (c : Instr) (s : State) (p : Port) (cmd : Command) (scope : Byte) (k : WatchKind) (low high : Nat) : Prop :=
  let r := s.judgedIn p c
  ∀ (first : WindowNo × Lamp) (rest : List (WindowNo × Lamp)), r.matches p k low high = first :: rest →
    ∀ b ∈ first :: rest, s.windows[b.1].action = .block →
      (∀ h ∈ first :: rest, s.windows[h.1].action = .block → b.1 ≤ h.1) →
      exec c s = .next ((r.recordHit ⟨first.1, p, cmd.code, scope, k, first.2, true, s.frameCount⟩).conclude p cmd
        (s.attributedZone cmd.code cmd.payload) ⟨.blocked, byte b.1.val :: bytes16 b.2.val⟩)

/-! ### Invariants -/

/-- Owners, holder and poster (R28, R57, R58, R93): only T1 and T2 own zones or post, no zone is owned by a SILENT port,
a SILENT port holds no hold and has no POSTED word, and an EMPTY slot holds word 0 and no poster. -/
structure OwnershipOk (s : State) : Prop where
  owner  : ∀ (z : ZoneNo) (p : Port), s.zones[z].owner = some p →
    s.zones[z].enabled = true ∧ p ≠ .d ∧ (s.links.get p).state = .live
  holder : ∀ p : Port, s.hold.holder = some p → (s.links.get p).state = .live
  poster : ∀ p : Port, s.slot.poster = some p → p ≠ .d ∧ (s.slot.state = .posted → (s.links.get p).state = .live)
  empty  : s.slot.state = .empty ↔ s.slot.poster = none
  word   : s.slot.state = .empty → s.slot.word = 0

/-- The zone table (R25, R26): every range is one that a zone can have, a disabled zone has no owner, no summary lamp and
no counts and is stale, and no two enabled zones overlap. -/
structure ZonesOk (s : State) : Prop where
  range    : ∀ z : ZoneNo, rangeOk s.zones[z].base s.zones[z].size = true
  disabled : ∀ z : ZoneNo, s.zones[z].enabled = false →
    s.zones[z].owner = none ∧ s.zones[z].stale = true ∧ s.zones[z].summary = none ∧
      s.zones[z].unack = 0 ∧ s.zones[z].standing = 0
  disjoint : ∀ y z : ZoneNo, y ≠ z → s.zones[y].enabled = true → s.zones[z].enabled = true →
    overlap s.zones[y].base s.zones[y].size s.zones[z].base s.zones[z].size = false

/-- How many lamps with numbers from `base` to `base + size - 1` are in one of some alarm states. -/
def State.lampsIn (s : State) (base size : Nat) (states : List AlarmState) : Nat :=
  (lampsFrom base size).countP fun i => s.lamps[i].alarm ∈ states

/-- The alarm counts (R71) and the alarm-capable lamps (R62): every enabled zone counts the lamps of its range in NEW or
RETURNED and those in STANDING, and a lamp that is not alarm-capable is NORMAL. -/
structure AlarmsOk (s : State) : Prop where
  unack    : ∀ z : ZoneNo, s.zones[z].enabled = true →
    s.zones[z].unack = s.lampsIn s.zones[z].base s.zones[z].size [.new, .returned]
  standing : ∀ z : ZoneNo, s.zones[z].enabled = true →
    s.zones[z].standing = s.lampsIn s.zones[z].base s.zones[z].size [.standing]
  capable  : ∀ i : Lamp, s.lamps[i].attrs.alarmCapable = false → s.lamps[i].alarm = .normal

/-- The horn law (R75): the horn is SOUNDING only while a lamp of horn class SOUND is in NEW. -/
def HornOk (s : State) : Prop :=
  s.horn = .sounding → ∃ i : Lamp, s.lamps[i].alarm = .new ∧ s.lamps[i].attrs.hornClass = .sound

/-- A receiver (R153, R154): in HUNT with no held bytes and its gap timer stopped, or out of HUNT with the gap timer
running, in the state that the bytes held so far say, within a frame of at most 72 payload bytes. -/
def Receiver.ok (rx : Receiver) : Prop :=
  rx = .idle ∨
    (rx.gap = true ∧ rx.phase = phaseOf rx.held ∧
      ∀ len rest, rx.held = len :: rest → len.toNat ≤ 72 ∧ rx.held.length < len.toNat + 5)

/-- The ports (R153, R155, R156, R158): receivers as they can stand, at most 8 commands and 8 replies in each queue, and
each port exactly once in the served order. -/
structure PortsOk (s : State) : Prop where
  rx       : ∀ p : Port, (s.ports.get p).rx.ok
  commands : ∀ p : Port, (s.ports.get p).commands.length ≤ 8
  replies  : ∀ p : Port, (s.ports.get p).replies.length ≤ 8
  served   : s.served.Perm [.d, .t1, .t2]

/-- Timing within its ranges (R92). -/
def Timing.ok (t : Timing) : Prop :=
  (5 ≤ t.period ∧ t.period ≤ 40) ∧ (20 ≤ t.slow ∧ t.slow ≤ 200) ∧ (4 ≤ t.fast ∧ t.fast ≤ 50)

/-- The scan (R81 to R84, R92, R93, R98, R105, R107): in DARK no hold, no session, no frame and every output off; in
RUNNING a frame in hand and the phase counters below their periods; strings that answer have modules; timing and module
counts within their ranges; a string is UNUSED exactly while its module count is 0. -/
structure ScanOk (s : State) : Prop where
  dark    : s.scan = .dark →
    s.hold = .free ∧ s.session = .off ∧ s.progress = .none ∧ s.nextFrame = none ∧ ∀ i : Lamp, s.lampOn i = false
  running : s.scan = .running →
    s.progress ≠ .none ∧ s.nextFrame.isSome ∧ s.slowPhase < s.timing.slow ∧ s.fastPhase < s.timing.fast
  begun   : ∀ j, s.progress = .driving j → j ≤ 16
  left    : ∀ l, s.progress = .answering l → l.Nodup ∧ ∀ n ∈ l, 0 < s.strings[n].count
  timing  : s.timing.ok ∧ ∀ t, s.pendingTiming = some t → t.ok
  limits  : (1 ≤ s.holdLimit ∧ s.holdLimit ≤ 20) ∧ (5 ≤ s.testLimit ∧ s.testLimit ≤ 120)
  strings : ∀ n : StringNo, s.strings[n].count ≤ 32 ∧ s.strings[n].lastAnswer ≤ 63 ∧
    (s.strings[n].state = .unused ↔ s.strings[n].count = 0) ∧ ∀ c, s.strings[n].pending = some c → c ≤ 32

/-- A rendering (R7, R89): 0 sub-frames exactly for DARK, and at most 16. -/
def Rendering.ok (r : Rendering) : Prop := r.count ≤ 16 ∧ (r.count = 0 ↔ r.aspect = .dark)

/-- Lamp records and the settings they are judged and drawn by (R5, R7, R19, R91, R117, R119). -/
structure LampsOk (s : State) : Prop where
  runCount   : ∀ i : Lamp, s.lamps[i].runCount ≤ 15
  supervised : ∀ i : Lamp, s.lamps[i].attrs.supervised = false ↔ s.lamps[i].health = .unsupervised
  suspect    : ∀ i : Lamp, s.lamps[i].suspect = true → s.lamps[i].attrs = ⟨false, .quiet, 0, true⟩
  rendering  : ∀ i : Lamp, s.lamps[i].rendering.ok ∧ s.snapshot[i].ok ∧ s.drive[i] ≤ 16
  levels     : s.levels.board ≤ 255 ∧ (16 ≤ s.levels.floor ∧ s.levels.floor ≤ 255) ∧ ∀ g : Fin 8, s.levels.groups[g] ≤ 255
  thresholds : (1 ≤ s.failThreshold ∧ s.failThreshold ≤ 15) ∧ (1 ≤ s.recoveryThreshold ∧ s.recoveryThreshold ≤ 15)

/-- Link records (R46, R48, R54): timeout, allowance count and a started timer within their ranges. -/
def LinksOk (s : State) : Prop :=
  ∀ p : Port, (1 ≤ (s.links.get p).timeout ∧ (s.links.get p).timeout ≤ 300) ∧
    (-128 ≤ (s.links.get p).allowance ∧ (s.links.get p).allowance ≤ 127) ∧
    ∀ n, (s.links.get p).timer = some n → 1 ≤ n ∧ n ≤ 300

/-- Whether a captured place is one that a fault of the kind can have (R134). -/
def FaultKind.fits : FaultKind → FaultPlace → Prop
  | .corrected, .lamp _ | .uncorrectable, .lamp _ | .chain, .string _ => True
  | .corrected, .string _ | .uncorrectable, .string _ | .chain, .lamp _ => False

/-- The records that freeze (R123, R134, R145): while no fault flag is set the fault record is at its free values; while
one is set it holds a capture; a free watch capture has its more flag clear; the failure list has at most 64 entries, at
most one for a lamp. -/
structure RecordsOk (s : State) : Prop where
  free     : s.fault.flags.any = false →
    s.fault.kind = none ∧ s.fault.place = none ∧ s.fault.frame = 0 ∧ s.fault.more = false
  frozen   : s.fault.flags.any = true → ∃ k l, s.fault.kind = some k ∧ s.fault.place = some l ∧ k.fits l
  capture  : s.capture.hit = none → s.capture.more = false
  failures : s.failures.length ≤ 64 ∧ (s.failures.map FailureEntry.lamp).Nodup

/-! ### The health decision as the manual tables it (R115, R116) -/

/-- The health and run count of a supervised lamp after an observation, by the fail and recovery thresholds. -/
def healthAfter (fail recovery : Nat) (health : Health) (run : Nat) : Observation → Health × Nat
  | .neutral => (health, run)
  | .healthy =>
    match health with
    | .unknown | .good => (.good, 0)
    | .opened | .stuck => if recovery ≤ min 15 (run + 1) then (.good, 0) else (health, min 15 (run + 1))
    | .unsupervised => (health, run)
  | .openMismatch =>
    match health with
    | .unknown | .good => if fail ≤ min 15 (run + 1) then (.opened, 0) else (health, min 15 (run + 1))
    | .opened | .stuck => (health, 0)
    | .unsupervised => (health, run)
  | .stuckMismatch =>
    match health with
    | .unknown | .good => if fail ≤ min 15 (run + 1) then (.stuck, 0) else (health, min 15 (run + 1))
    | .opened | .stuck => (health, 0)
    | .unsupervised => (health, run)

end Sys2Proof.Machine
end

