-- ==== Sys2Proof/Certificates/Slice0/Obligations.lean ====
section
/-! DEFINITION. The statements for the provers. Each says what a reader of the manual may rely on; the rules it
formalises stand in its docstring. -/

open Sys2Proof Sys2Proof.Machine

/-! ### The machine as a whole -/

/-- One step takes the event at the front of the queue and runs it with the queue's rest; on an empty queue the part
idles, which is the model's choice (log entry 4). -/
def Obligations.StepRunsTheFrontEvent : Prop :=
  ∀ (s : State) (c : Instr) (rest : List Instr),
    (s.pending = c :: rest → step s = exec c { s with pending := rest }) ∧
    (s.pending = [] → step s = .next s)

/-- Every event completes: no event stops the part, and none touches the queue of waiting events. That an event which the
state does not admit completes too, and changes nothing, is the model's choice (log entry 2), and so is the one queue
of events (log entry 24). -/
def Obligations.EveryEventCompletes : Prop :=
  ∀ (c : Instr) (s : State), ∃ t, exec c s = .next t ∧ t.pending = s.pending

/-- The reset pin (R163, R150, R81). While it is asserted every lamp output is off, horn and attention outputs are
deasserted, the transmit lines are at mark, and no event is taken (that a queued event then leaves the state as it is
is the model's choice, log entry 2). Its release leaves every block at its power-up values, with the line rate and the
lamp-test input as sampled; these values are written out for every block but the lamp records (R25, R46, R57, R81,
R105, R119, R134, R140, R153, R155, R156, R158, R165, R166, R168). What the assertion leaves of the rest of the state
is the model's reading (log entry 14). -/
def Obligations.ResetPinAndPowerUp : Prop :=
  (∀ s : State, ∃ t, exec .resetPinAsserted s = .next t ∧
    t = { s with resetAsserted := true, latched := t.latched, ports := t.ports } ∧
    (∀ i : Lamp, t.lampOn i = false) ∧ t.hornPin = false ∧
    (∀ p : Port, t.attention p = false ∧ t.transmitAtMark p = true ∧
      t.ports.get p = { s.ports.get p with sending := none })) ∧
  (∀ (rate1 rate0 lampTest : Bool) (s : State), exec (.powerUpReset rate1 rate0 lampTest) s =
    .next { State.reset with
      lineRate := match rate1, rate0 with
        | false, false => .r19200 | false, true => .r38400 | true, false => .r115200 | true, true => .r230400
      testInput := lampTest
      pending := s.pending }) ∧
  (∀ (rate1 rate0 lampTest : Bool) (s : State), ∃ t, exec (.powerUpReset rate1 rate0 lampTest) s = .next t ∧
    t.resetAsserted = false ∧ t.testInput = lampTest ∧
    (∀ p : Port, t.ports.get p = { rx := ⟨.hunt, [], false⟩, inBreak := false, commands := [], replies := [], sending := none } ∧
      t.links.get p = { state := .silent, timer := none, timeout := 50, allowance := 0, saturated := false } ∧
      t.attention p = false ∧ ∀ j : Fin 10, (t.notices.get p)[j] = false) ∧
    t.mode = .fair ∧ t.served = [.d, .t1, .t2] ∧
    (∀ z : ZoneNo, t.zones[z] = { enabled := false, base := 0, size := 8, owner := none, stale := true, treatment := .keep
                                  summary := none, unack := 0, standing := 0 }) ∧
    t.horn = .quiet ∧ t.slot = { state := .empty, word := 0, poster := none } ∧
    t.scan = .dark ∧ t.levels.board = 255 ∧ t.levels.floor = 32 ∧ (∀ g : Fin 8, t.levels.groups[g] = 255) ∧
    t.timing = { period := 10, slow := 100, fast := 25 } ∧ t.pendingTiming = none ∧ t.holdLimit = 5 ∧ t.testLimit = 30 ∧
    t.slowPhase = 0 ∧ t.fastPhase = 0 ∧ t.frameCount = 0 ∧ t.hold = .free ∧ t.session = .off ∧
    (∀ i : Lamp, t.snapshot[i] = { aspect := .dark, count := 0 } ∧ t.lampOn i = false) ∧
    (∀ n : StringNo, t.strings[n] = { count := 0, pending := none, state := .unused, lastAnswer := 0 }) ∧
    t.progress = .none ∧ t.failThreshold = 3 ∧ t.recoveryThreshold = 8 ∧ t.failures = [] ∧ t.overflow = false ∧
    t.fault = { flags := ⟨false, false, false⟩
                mask := { corrected := true, uncorrectable := false, chain := false }
                kind := none, place := none, frame := 0, more := false } ∧
    (∀ w : WindowNo, t.windows[w] = { lower := 4095, upper := 0, sources := ⟨false, false, false⟩
                                      kinds := ⟨false, false, false, false, false⟩, action := .record }) ∧
    t.capture = { hit := none, more := false } ∧
    (∀ k : Fin 10, t.routing[k] = { t1 := true, t2 := true, d := true }) ∧
    (∀ j : CounterNo, t.counters[j] =
      { event := .commandsDone, ports := ⟨true, true, true⟩, zone := none, mode := .wrap, value := 0 })) ∧
  (∀ (c : Instr) (s : State), s.resetAsserted = true → c ≠ .resetPinAsserted →
    (∀ rate1 rate0 lampTest, c ≠ .powerUpReset rate1 rate0 lampTest) → exec c s = .next s)

/-- Every lamp record after power-up reset, with its check code computed afresh; port reset and STOP SCAN leave every
record as it is (R8). -/
def Obligations.PowerUpLampRecords : Prop :=
  (∀ (rate1 rate0 lampTest : Bool) (s : State), ∃ t, exec (.powerUpReset rate1 rate0 lampTest) s = .next t ∧
    ∀ i : Lamp, t.lamps[i] =
      { telemetry := .dark, override := none, alarm := .normal
        attrs := { alarmCapable := false, hornClass := .quiet, dimGroup := 0, supervised := true }
        health := .unknown, runCount := 0, suspect := false, rendering := ⟨.dark, 0⟩, integrity := .clean }) ∧
  (∀ (p : Port) (s : State), ∃ t, exec (.portReset p) s = .next t ∧ t.lamps = s.lamps) ∧
  (∀ (p : Port) (tag : Byte) (payload : List Byte) (s : State),
    ∃ t, exec (.stopScan p tag payload) s = .next t ∧ t.lamps = s.lamps)

/-! ### The arbiter and the executor (chapter 9) -/

/-- Every taking (R155, R158, R160, R162, R168): the command leaves the head of its queue, its port goes to the end of the
served order, exactly one reply with its TAG and CODE is appended, and the command is counted exactly once, as done or
refused, for its port and for the zone that R168 attributes it to: a counter selecting COMMANDS DONE or COMMANDS
REFUSED stands as before but for that one count (a SET COUNTER that is done sets its counter anew, which
NoticesAreRoutedAndEventsCounted states); the other ports' queues stay. A taking that the arbiter would not make does
not happen, which is the model's choice (log entry 2). The zone of a batch that runs past lamp 4095 is the model's
reading (log entry 20). -/
def Obligations.EveryTakingYieldsOneReply : Prop :=
  ∀ (c : Instr) (s : State) (p : Port) (cmd : Command), c.command? = some (p, cmd) →
    (s.takes p cmd = false → exec c s = .next s) ∧
    (s.takes p cmd = true → ∃ (t : State) (a : Answer), exec c s = .next t ∧
      t.ports.get p = { s.ports.get p with
        commands := (s.ports.get p).commands.tail
        replies := (s.ports.get p).replies ++ [⟨cmd.tag, cmd.code, a.status, a.payload⟩] } ∧
      (∀ q : Port, q ≠ p → t.ports.get q = s.ports.get q) ∧
      t.served = s.served.filter (· ≠ p) ++ [p] ∧
      (cmd.code ≠ 0x92 ∨ a.status ≠ .done → ∀ j : CounterNo,
        s.counters[j].event = .commandsDone ∨ s.counters[j].event = .commandsRefused →
        t.counters[j] =
          if s.counters[j].counts (if a.status = .done then .commandsDone else .commandsRefused) (some p)
            (s.attributedZone cmd.code cmd.payload) then s.counters[j].bump else s.counters[j]))

/-- The arbiter (R158): a port is waiting while its command queue is not empty and its reply queue holds fewer than 8;
in FAIR the waiting port least recently served is chosen, in PRIORITY the first waiting one of D, T1, T2. -/
def Obligations.ArbiterChoosesAWaitingPort : Prop :=
  ∀ s : State, s.served.Perm [.d, .t1, .t2] → ∀ p : Port,
    (s.waiting p = true ↔ (s.ports.get p).commands ≠ [] ∧ (s.ports.get p).replies.length < 8) ∧
    (s.choice = some p ↔ s.waiting p = true ∧ ∀ q : Port, s.waiting q = true →
      match s.mode with
      | .fair => s.served.idxOf p ≤ s.served.idxOf q
      | .priority => [Port.d, .t1, .t2].idxOf p ≤ [Port.d, .t1, .t2].idxOf q)

/-- LENGTH (R160, R13, R68; 9.2): a command is refused LENGTH, with an empty payload and attributed to no zone, exactly
when its payload length is not the code table's for its code, count or scope. That a command refused LENGTH reads no
record is the model's reading (log entry 11). -/
def Obligations.WrongLengthIsRefused : Prop :=
  ∀ (c : Instr) (s : State) (p : Port) (cmd : Command), c.command? = some (p, cmd) → s.takes p cmd = true →
    (lengthOk cmd.code cmd.payload = false →
      exec c s = .next (((s.land c.upsets).takeHead p).conclude p cmd none ⟨.length, []⟩)) ∧
    (lengthOk cmd.code cmd.payload = true → ∀ t, exec c s = .next t →
      (t.ports.get p).replies.getLast?.map Reply.status ≠ some .length)

/-- UNKNOWN and ROLE (R160): a code that is not in the code table is refused UNKNOWN whatever its payload; a command that
passes LENGTH and is not allowed from its port, or whose scope is not, is refused ROLE before any later check. That a
command refused ROLE has had its named records read is the model's reading (log entry 11). -/
def Obligations.UnknownCodeAndWrongRole : Prop :=
  (∀ (s : State) (p : Port) (tag code : Byte) (payload : List Byte), code ∉ knownCodes →
    s.takes p ⟨tag, code, payload⟩ = true →
    exec (.unknownCommand p tag code payload) s =
      .next ((s.takeHead p).conclude p ⟨tag, code, payload⟩ none ⟨.unknown, []⟩)) ∧
  (∀ (c : Instr) (s : State) (p : Port) (cmd : Command), c.command? = some (p, cmd) → s.takes p cmd = true →
    lengthOk cmd.code cmd.payload = true → roleOk p cmd.code cmd.payload = false →
    c.refusedWith s p cmd ⟨.role, []⟩)

/-- A refused command (R13, R161): it leaves its reply, the counting, what its checking reads corrected or replaced and,
for BLOCKED, what the watch unit notes; nothing else. Which records those reads cover is the model's reading (log
entry 11). -/
def Obligations.RefusedCommandWritesNothing : Prop :=
  ∀ (c : Instr) (s : State) (p : Port) (cmd : Command), c.command? = some (p, cmd) → s.takes p cmd = true →
    ∃ t, exec c s = .next t ∧ ∀ status, (t.ports.get p).replies.getLast?.map Reply.status = some status →
      status ≠ .done →
      t = { s.judgedIn p c with
        ports := t.ports, counters := t.counters, capture := t.capture, notices := t.notices } ∧
      (status ≠ .blocked → t.capture = (s.judgedIn p c).capture ∧ t.notices = (s.judgedIn p c).notices)

/-! ### Invariants that every step keeps -/

/-- Owners, holder and poster stay as R28, R50, R57, R58 and R93 say. -/
def Obligations.OwnershipIsKept : Prop :=
  ∀ s t : State, OwnershipOk s → step s = .next t → OwnershipOk t

/-- The zone table stays well formed, and no two enabled zones overlap (R25, R26, R31, R32, R35). -/
def Obligations.ZoneTableIsKept : Prop :=
  ∀ s t : State, ZonesOk s → step s = .next t → ZonesOk t

/-- Every enabled zone's counts stay those of the alarm states in its range, and a lamp that is not alarm-capable stays
NORMAL (R62, R71, R72). -/
def Obligations.AlarmCountsAreKept : Prop :=
  ∀ s t : State, ZonesOk s → AlarmsOk s → step s = .next t → AlarmsOk t

/-- The horn is SOUNDING only while a lamp of class SOUND is in NEW (R75). -/
def Obligations.HornLawIsKept : Prop :=
  ∀ s t : State, HornOk s → step s = .next t → HornOk t

/-- Receivers stay as R153 and R154 have them, queues within 8 places (R155, R156), the served order one of the three
ports (R158). -/
def Obligations.PortsAreKept : Prop :=
  ∀ s t : State, PortsOk s → step s = .next t → PortsOk t

/-- In DARK there is no hold, session, frame or lamp output; in RUNNING a frame is in hand and the phase counters are below
their periods; settings and module counts stay in range (R83, R85, R92, R93, R98, R105, R107). -/
def Obligations.ScanIsKept : Prop :=
  ∀ s t : State, ScanOk s → step s = .next t → ScanOk t

/-- Run counts stay within 15, health UNSUPERVISED goes with supervised no, a suspect lamp has the power-up attributes,
and renderings, snapshot, drive counts, levels and thresholds stay in range (R5, R7, R19, R89, R90, R91, R117, R119). -/
def Obligations.LampRecordsAreKept : Prop :=
  ∀ s t : State, LampsOk s → step s = .next t → LampsOk t

/-- Timeouts, allowance counts and running silence timers stay in range (R46, R48, R54, R55). -/
def Obligations.LinkRecordsAreKept : Prop :=
  ∀ s t : State, LinksOk s → step s = .next t → LinksOk t

/-- The fault record and the watch capture are frozen exactly while they hold a capture, and the failure list holds at
most 64 entries, one per lamp (R123, R134, R145). -/
def Obligations.FrozenRecordsAreKept : Prop :=
  ∀ s t : State, RecordsOk s → step s = .next t → RecordsOk t

/-- All the invariants hold right after power-up reset. -/
def Obligations.InvariantsHoldAtReset : Prop :=
  OwnershipOk .reset ∧ ZonesOk .reset ∧ AlarmsOk .reset ∧ HornOk .reset ∧ PortsOk .reset ∧ ScanOk .reset ∧
    LampsOk .reset ∧ LinksOk .reset ∧ RecordsOk .reset

/-! ### Commands on the image (chapter 1) -/

/-- WRITE ASPECTS (R13, R14): from a telemetry port that may write every lamp of the batch, and past the watch check,
each named lamp takes the aspect given for it; no other field of a record and no other lamp changes; the reply is
DONE with first lamp and count. Which records the taking reads is the model's reading (log entry 11). -/
def Obligations.WriteAspectsSetsTelemetry : Prop :=
  ∀ (s : State) (p : Port) (tag hi lo n : Byte) (aspects : List Aspect) (upsets : List Upset),
    let payload := hi :: lo :: n :: aspects.map Aspect.code
    let c := Instr.writeAspects p tag payload upsets
    let first := number16 hi lo
    let r := s.judgedIn p c
    s.takes p ⟨tag, 0x01, payload⟩ = true → p ≠ .d →
    n.toNat = aspects.length → 1 ≤ n.toNat → n.toNat ≤ 64 → first + n.toNat ≤ 4096 →
    (∀ i : Lamp, first ≤ i.val → i.val < first + n.toNat → s.mayWrite p i = true) →
    r.passes p .aspect first (first + n.toNat - 1) →
    ∃ L : Vector LampRecord 4096,
      (∀ i : Lamp, L[i] = if first ≤ i.val ∧ i.val < first + n.toNat then
        { r.lamps[i] with telemetry := aspects.getD (i.val - first) .dark } else r.lamps[i]) ∧
      exec c s = .next ((State.hitRecorded { r with lamps := L } p 0x01 0x00 .aspect first
        (first + n.toNat - 1)).conclude p ⟨tag, 0x01, payload⟩ (s.zoneOf first) (.done [hi, lo, n]))

/-- SET ATTRIBUTES (R13, R15 to R18): each named lamp takes its four attributes and loses its suspect flag; one that is
no longer alarm-capable goes to NORMAL, with its zone's counts; one whose supervised attribute changes takes
UNSUPERVISED or UNKNOWN and run count 0, and on yes to no its failure list entry is dealt with as for a lamp that
becomes GOOD; the horn is settled once. Which records the taking reads is the model's reading (log entry 11). -/
def Obligations.SetAttributesGivesAttributes : Prop :=
  ∀ (s : State) (p : Port) (tag hi lo n : Byte) (given : List Attributes) (upsets : List Upset),
    let payload := hi :: lo :: n :: given.flatMap fun a =>
      [flagByte a.alarmCapable, a.hornClass.code, byte a.dimGroup.val, flagByte a.supervised]
    let c := Instr.setAttributes p tag payload upsets
    let first := number16 hi lo
    let r := s.judgedIn p c
    let new (i : Lamp) : Attributes := given.getD (i.val - first) LampRecord.reset.attrs
    let named (i : Lamp) : Bool := first ≤ i.val && i.val < first + n.toNat
    let silenced (i : Lamp) : Bool := r.lamps[i].attrs.alarmCapable && !(new i).alarmCapable
    let freed (i : Lamp) : Bool := r.lamps[i].attrs.supervised && !(new i).supervised
    s.takes p ⟨tag, 0x02, payload⟩ = true → p ≠ .d →
    n.toNat = given.length → 1 ≤ n.toNat → n.toNat ≤ 16 → first + n.toNat ≤ 4096 →
    (∀ i : Lamp, named i = true → s.mayWrite p i = true) →
    r.passes p .attributes first (first + n.toNat - 1) →
    ∃ (L : Vector LampRecord 4096) (Z : Vector ZoneRecord 64),
      (∀ i : Lamp, L[i] = if named i then
        { r.lamps[i] with
          attrs := new i
          suspect := false
          alarm := if silenced i then .normal else r.lamps[i].alarm
          health := if r.lamps[i].attrs.supervised = (new i).supervised then r.lamps[i].health
            else if (new i).supervised then .unknown else .unsupervised
          runCount := if r.lamps[i].attrs.supervised = (new i).supervised then r.lamps[i].runCount else 0 }
        else r.lamps[i]) ∧
      (∀ z : ZoneNo, Z[z] = { r.zones[z] with
        unack := r.zones[z].unack - (lampsFrom first n.toNat).countP fun i =>
          s.zoneOf i.val = some z && silenced i && (r.lamps[i].alarm = .new || r.lamps[i].alarm = .returned)
        standing := r.zones[z].standing - (lampsFrom first n.toNat).countP fun i =>
          s.zoneOf i.val = some z && silenced i && r.lamps[i].alarm = .standing }) ∧
      exec c s = .next (((State.settleHorn { r with
        lamps := L
        zones := Z
        failures := r.failures.filterMap fun e =>
          if named e.lamp && freed e.lamp then (if e.reported then none else some { e with recovered := true })
          else some e } false).hitRecorded p 0x02 0x00 .attributes first (first + n.toNat - 1)).conclude p
            ⟨tag, 0x02, payload⟩ (s.zoneOf first) (.done [hi, lo, n]))

/-- FORCE LAMP and UNFORCE from port D (R20, R21): the override of the lamp named is set or made absent, that of every
lamp for UNFORCE ALL, and no other field; a lamp number above 4095 or an aspect code of no aspect is refused RANGE,
with an empty payload (log entry 17). Which records the taking reads is the model's reading (log entry 11). -/
def Obligations.OverridesAreSetAndTakenAway : Prop :=
  (∀ (s : State) (tag hi lo : Byte) (i : Lamp) (o : Aspect) (upsets : List Upset), number16 hi lo = i.val →
    let c := Instr.forceLamp .d tag [hi, lo, o.code] upsets
    let r := s.judgedIn .d c
    s.takes .d ⟨tag, 0x03, [hi, lo, o.code]⟩ = true → r.passes .d .override i.val i.val →
    exec c s = .next (((r.setLamp i { r.lamps[i] with override := some o }).hitRecorded
      .d 0x03 0x00 .override i.val i.val).conclude .d ⟨tag, 0x03, [hi, lo, o.code]⟩ (s.zoneOf i.val) (.done [hi, lo]))) ∧
  (∀ (s : State) (tag hi lo : Byte) (i : Lamp) (upsets : List Upset), number16 hi lo = i.val →
    let c := Instr.unforce .d tag [hi, lo] upsets
    let r := s.judgedIn .d c
    s.takes .d ⟨tag, 0x04, [hi, lo]⟩ = true → r.passes .d .override i.val i.val →
    exec c s = .next (((r.setLamp i { r.lamps[i] with override := none }).hitRecorded
      .d 0x04 0x00 .override i.val i.val).conclude .d ⟨tag, 0x04, [hi, lo]⟩ (s.zoneOf i.val) (.done [hi, lo]))) ∧
  (∀ (s : State) (tag : Byte) (upsets : List Upset),
    let c := Instr.unforce .d tag [0xFF, 0xFF] upsets
    let r := s.judgedIn .d c
    s.takes .d ⟨tag, 0x04, [0xFF, 0xFF]⟩ = true → r.passes .d .override 0 4095 →
    ∃ L : Vector LampRecord 4096, (∀ i : Lamp, L[i] = { r.lamps[i] with override := none }) ∧
      exec c s = .next ((State.hitRecorded { r with lamps := L } .d 0x04 0x00 .override 0 4095).conclude
        .d ⟨tag, 0x04, [0xFF, 0xFF]⟩ none (.done [0xFF, 0xFF]))) ∧
  (∀ (s : State) (tag hi lo o : Byte) (upsets : List Upset), s.takes .d ⟨tag, 0x03, [hi, lo, o]⟩ = true →
    number16 hi lo > 4095 ∨ o.toNat > 3 →
    (Instr.forceLamp .d tag [hi, lo, o] upsets).refusedWith s .d ⟨tag, 0x03, [hi, lo, o]⟩ ⟨.range, []⟩) ∧
  (∀ (s : State) (tag hi lo : Byte) (upsets : List Upset), s.takes .d ⟨tag, 0x04, [hi, lo]⟩ = true →
    number16 hi lo > 4095 → number16 hi lo ≠ 0xFFFF →
    (Instr.unforce .d tag [hi, lo] upsets).refusedWith s .d ⟨tag, 0x04, [hi, lo]⟩ ⟨.range, []⟩)

/-- READ LAMPS (R22, R23; 9.2): from any port, the reply gives first lamp, count, and six bytes for each lamp in rising
order from the records as the checking read left them; nothing else changes; a bad count or a batch past lamp 4095
is refused RANGE with the first lamp. That a refused taking reads too is the model's reading (log entry 11). -/
def Obligations.ReadLampsReportsTheRecords : Prop :=
  ∀ (s : State) (p : Port) (tag hi lo n : Byte) (upsets : List Upset),
    let c := Instr.readLamps p tag [hi, lo, n] upsets
    let first := number16 hi lo
    let r := s.judgedIn p c
    s.takes p ⟨tag, 0x05, [hi, lo, n]⟩ = true →
    (1 ≤ n.toNat → n.toNat ≤ 16 → first + n.toNat ≤ 4096 →
      exec c s = .next (r.conclude p ⟨tag, 0x05, [hi, lo, n]⟩ (s.zoneOf first) (.done ([hi, lo, n] ++
        (lampsFrom first n.toNat).flatMap fun i =>
          let l := r.lamps[i]
          [ byte (16 * l.telemetry.code.toNat + l.override.elim 4 fun a => a.code.toNat),
            byte (16 * l.alarm.code.toNat + l.health.code.toNat),
            byte (l.attrs.dimGroup.val + (if l.attrs.alarmCapable then 8 else 0)
              + (if l.attrs.hornClass = .sound then 16 else 0) + (if l.attrs.supervised then 32 else 0)
              + (if l.suspect then 64 else 0)),
            (s.zoneOf i.val).elim 0xFF fun z => byte z.val,
            l.rendering.aspect.code,
            byte l.rendering.count ])))) ∧
    (n.toNat = 0 ∨ n.toNat > 16 ∨ first + n.toNat > 4096 →
      c.refusedWith s p ⟨tag, 0x05, [hi, lo, n]⟩ ⟨.range, [hi, lo]⟩)

/-- The refusals of batches from a telemetry port, in their order (R13, R65): RANGE naming the first lamp as sent, or
the first lamp whose value is none of its field; then NOT OWNER naming the first lamp that fails the ownership
check; then, for RAISE ALARM and CLEAR ALARM, NOT ALARM naming the first lamp that is not alarm-capable. That a
refused taking reads its records is the model's reading (log entry 11). -/
def Obligations.BatchRefusalsNameTheirLamp : Prop :=
  ∀ (s : State) (p : Port) (tag hi lo n : Byte) (rest : List Byte) (upsets : List Upset), p ≠ .d →
    let first := number16 hi lo
    let inRange (most : Nat) : Prop := 1 ≤ n.toNat ∧ n.toNat ≤ most ∧ first + n.toNat ≤ 4096
    let owns (i : Lamp) : Prop := s.mayWrite p i = true
    let firstWithout (ok : Lamp → Prop) (i : Lamp) : Prop :=
      first ≤ i.val ∧ i.val < first + n.toNat ∧ ¬ ok i ∧ ∀ k : Lamp, first ≤ k.val → k.val < i.val → ok k
    (let payload := hi :: lo :: n :: rest
     let c := Instr.writeAspects p tag payload upsets
     s.takes p ⟨tag, 0x01, payload⟩ = true → rest.length = n.toNat →
      (¬ inRange 64 → c.refusedWith s p ⟨tag, 0x01, payload⟩ ⟨.range, [hi, lo]⟩) ∧
      (inRange 64 → ∀ k, k < n.toNat → (rest.getD k 0).toNat > 3 → (∀ j, j < k → (rest.getD j 0).toNat ≤ 3) →
        c.refusedWith s p ⟨tag, 0x01, payload⟩ ⟨.range, bytes16 (first + k)⟩) ∧
      (inRange 64 → (∀ v ∈ rest, v.toNat ≤ 3) → ∀ i, firstWithout owns i →
        c.refusedWith s p ⟨tag, 0x01, payload⟩ ⟨.notOwner, bytes16 i.val⟩)) ∧
    (let payload := hi :: lo :: n :: rest
     let c := Instr.setAttributes p tag payload upsets
     let bad (k : Nat) : Prop := (rest.getD (4 * k) 0).toNat > 1 ∨ (rest.getD (4 * k + 1) 0).toNat > 1 ∨
       (rest.getD (4 * k + 2) 0).toNat > 7 ∨ (rest.getD (4 * k + 3) 0).toNat > 1
     s.takes p ⟨tag, 0x02, payload⟩ = true → rest.length = 4 * n.toNat →
      (¬ inRange 16 → c.refusedWith s p ⟨tag, 0x02, payload⟩ ⟨.range, [hi, lo]⟩) ∧
      (inRange 16 → ∀ k, k < n.toNat → bad k → (∀ j, j < k → ¬ bad j) →
        c.refusedWith s p ⟨tag, 0x02, payload⟩ ⟨.range, bytes16 (first + k)⟩) ∧
      (inRange 16 → (∀ k, k < n.toNat → ¬ bad k) → ∀ i, firstWithout owns i →
        c.refusedWith s p ⟨tag, 0x02, payload⟩ ⟨.notOwner, bytes16 i.val⟩)) ∧
    (∀ c cmd, (c = Instr.raiseAlarm p tag [hi, lo, n] upsets ∧ cmd = ⟨tag, 0x30, [hi, lo, n]⟩) ∨
        (c = Instr.clearAlarm p tag [hi, lo, n] upsets ∧ cmd = ⟨tag, 0x31, [hi, lo, n]⟩) →
      s.takes p cmd = true →
      (¬ inRange 64 → c.refusedWith s p cmd ⟨.range, [hi, lo]⟩) ∧
      (inRange 64 → ∀ i, firstWithout owns i → c.refusedWith s p cmd ⟨.notOwner, bytes16 i.val⟩) ∧
      (inRange 64 → (∀ i : Lamp, first ≤ i.val → i.val < first + n.toNat → owns i) →
        ∀ i, firstWithout (fun k => (s.judgedIn p c).lamps[k].attrs.alarmCapable = true) i →
          c.refusedWith s p cmd ⟨.notAlarm, bytes16 i.val⟩))

/-! ### Zones (chapter 2) -/

/-- DEFINE ZONE that passes its checks (R33): the zone is enabled with the values given, keeps its owner, is stale, and
counts the alarm states of its new range; no other zone and no lamp changes. That the recount makes no checking read
is the model's reading (log entry 13). -/
def Obligations.DefineZoneEnablesAndRecounts : Prop :=
  ∀ (s : State) (p : Port) (tag : Byte) (z : ZoneNo) (base size : Nat) (t : Treatment) (m : Option Lamp),
    let payload := byte z.val :: bytes16 base ++ bytes16 size ++ [t.code] ++ lampBytes m
    s.takes p ⟨tag, 0x10, payload⟩ = true → p ≠ .d →
    size ∈ [8, 16, 32, 64, 128, 256, 512, 1024, 2048, 4096] → base ≤ 4095 → size ∣ base →
    (∀ q, s.zones[z].owner = some q → q = p) →
    (∀ k : ZoneNo, k ≠ z → s.zones[k].enabled = true →
      ¬ (base < s.zones[k].base + s.zones[k].size ∧ s.zones[k].base < base + size)) →
    exec (.defineZone p tag payload) s = .next (((s.takeHead p).setZone z
      { enabled := true, base := base, size := size, owner := s.zones[z].owner, stale := true, treatment := t
        summary := m
        unack := s.lampsIn base size [.new, .returned]
        standing := s.lampsIn base size [.standing] }).conclude p ⟨tag, 0x10, payload⟩ (some z)
      (.done [byte z.val, portOrNone s.zones[z].owner]))

/-- DEFINE ZONE refused (R31, R32, R41): RANGE naming the zone for any bad field; then OWNED with the owner if the other
port owns the zone; then OVERLAP with the lowest-numbered enabled zone, other than the one named, whose range overlaps. -/
def Obligations.DefineZoneRefusals : Prop :=
  ∀ (s : State) (p : Port) (tag z b1 b0 s1 s0 t m1 m0 : Byte), p ≠ .d →
    let payload := [z, b1, b0, s1, s0, t, m1, m0]
    let c := Instr.defineZone p tag payload
    let base := number16 b1 b0
    let size := number16 s1 s0
    let bad : Prop := z.toNat > 63 ∨ size ∉ [8, 16, 32, 64, 128, 256, 512, 1024, 2048, 4096] ∨ base > 4095 ∨
      ¬ size ∣ base ∨ t.toNat > 2 ∨ (number16 m1 m0 > 4095 ∧ number16 m1 m0 ≠ 0xFFFF)
    let overlaps (k : ZoneNo) : Prop := k.val ≠ z.toNat ∧ s.zones[k].enabled = true ∧
      base < s.zones[k].base + s.zones[k].size ∧ s.zones[k].base < base + size
    s.takes p ⟨tag, 0x10, payload⟩ = true →
    (bad → c.refusedWith s p ⟨tag, 0x10, payload⟩ ⟨.range, [z]⟩) ∧
    (¬ bad → ∀ n : ZoneNo, n.val = z.toNat →
      (∀ q, s.zones[n].owner = some q → q ≠ p →
        c.refusedWith s p ⟨tag, 0x10, payload⟩ ⟨.owned, [z, portCode q]⟩) ∧
      ((∀ q, s.zones[n].owner = some q → q = p) → ∀ k, overlaps k → (∀ j, j < k → ¬ overlaps j) →
        c.refusedWith s p ⟨tag, 0x10, payload⟩ ⟨.overlap, [byte k.val]⟩))

/-- DISABLE ZONE and CLAIM ZONE from a telemetry port (R35, R36, R41). A number above 63 is RANGE for both. DISABLE: OWNED
if the other port owns the zone, else the zone is disabled, unowned, stale, without summary lamp and counts. CLAIM: RANGE
for a disabled zone, SILENT for a SILENT requester, HELD if the other port owns it, else the requester owns it. -/
def Obligations.DisableAndClaimZone : Prop :=
  ∀ (s : State) (p : Port) (tag b : Byte), p ≠ .d →
    (s.takes p ⟨tag, 0x11, [b]⟩ = true →
      (b.toNat > 63 → (Instr.disableZone p tag [b]).refusedWith s p ⟨tag, 0x11, [b]⟩ ⟨.range, [b]⟩) ∧
      (∀ z : ZoneNo, z.val = b.toNat →
        (∀ q, s.zones[z].owner = some q → q ≠ p →
          (Instr.disableZone p tag [b]).refusedWith s p ⟨tag, 0x11, [b]⟩ ⟨.owned, [b, portCode q]⟩) ∧
        ((∀ q, s.zones[z].owner = some q → q = p) →
          exec (.disableZone p tag [b]) s = .next (((s.takeHead p).setZone z { s.zones[z] with
            enabled := false, owner := none, stale := true, summary := none, unack := 0, standing := 0 }).conclude
              p ⟨tag, 0x11, [b]⟩ (some z) (.done [b, 0x00]))))) ∧
    (s.takes p ⟨tag, 0x12, [b]⟩ = true →
      (b.toNat > 63 → (Instr.claimZone p tag [b]).refusedWith s p ⟨tag, 0x12, [b]⟩ ⟨.range, [b]⟩) ∧
      (∀ z : ZoneNo, z.val = b.toNat →
        (s.zones[z].enabled = false →
          (Instr.claimZone p tag [b]).refusedWith s p ⟨tag, 0x12, [b]⟩ ⟨.range, [b]⟩) ∧
        (s.zones[z].enabled = true → (s.links.get p).state = .silent →
          (Instr.claimZone p tag [b]).refusedWith s p ⟨tag, 0x12, [b]⟩ ⟨.silent, [b]⟩) ∧
        (s.zones[z].enabled = true → (s.links.get p).state = .live →
          (∀ q, s.zones[z].owner = some q → q ≠ p →
            (Instr.claimZone p tag [b]).refusedWith s p ⟨tag, 0x12, [b]⟩ ⟨.held, [b, portCode q]⟩) ∧
          ((∀ q, s.zones[z].owner = some q → q = p) →
            exec (.claimZone p tag [b]) s = .next (((s.takeHead p).setZone z { s.zones[z] with owner := some p }).conclude
              p ⟨tag, 0x12, [b]⟩ (some z) (.done [b, portCode p]))))))

/-- RELEASE ZONE and MARK CURRENT from a telemetry port (R38, R39, R41). RELEASE: NOT OWNER naming the other port if it
owns the zone, else the zone is unowned and its stale flag stays. MARK CURRENT: NOT OWNER naming the owner or none unless
the requester owns the zone, else the stale flag becomes no. -/
def Obligations.ReleaseZoneAndMarkCurrent : Prop :=
  ∀ (s : State) (p : Port) (tag b : Byte), p ≠ .d →
    (s.takes p ⟨tag, 0x13, [b]⟩ = true →
      (b.toNat > 63 → (Instr.releaseZone p tag [b]).refusedWith s p ⟨tag, 0x13, [b]⟩ ⟨.range, [b]⟩) ∧
      (∀ z : ZoneNo, z.val = b.toNat →
        (∀ q, s.zones[z].owner = some q → q ≠ p →
          (Instr.releaseZone p tag [b]).refusedWith s p ⟨tag, 0x13, [b]⟩ ⟨.notOwner, [b, portCode q]⟩) ∧
        ((∀ q, s.zones[z].owner = some q → q = p) →
          exec (.releaseZone p tag [b]) s = .next (((s.takeHead p).setZone z { s.zones[z] with owner := none }).conclude
            p ⟨tag, 0x13, [b]⟩ (some z) (.done [b, 0x00]))))) ∧
    (s.takes p ⟨tag, 0x14, [b]⟩ = true →
      (b.toNat > 63 → (Instr.markCurrent p tag [b]).refusedWith s p ⟨tag, 0x14, [b]⟩ ⟨.range, [b]⟩) ∧
      (∀ z : ZoneNo, z.val = b.toNat →
        (s.zones[z].owner ≠ some p → (Instr.markCurrent p tag [b]).refusedWith s p ⟨tag, 0x14, [b]⟩
          ⟨.notOwner, [b, portOrNone s.zones[z].owner]⟩) ∧
        (s.zones[z].owner = some p →
          exec (.markCurrent p tag [b]) s = .next (((s.takeHead p).setZone z { s.zones[z] with stale := false }).conclude
            p ⟨tag, 0x14, [b]⟩ (some z) (.done [b, portCode p])))))

/-- The commands that only read, beside READ LAMPS, READ FAULT and READ WATCH (R40, R53, R56, R121, R170): from any port
the reply gives the fields as they stand and nothing else changes. READ ZONE's reply is the zone and then R40's
fields, the owner among them (R41); that the zone stands first, and the owner once, is the model's reading (log entry
16). -/
def Obligations.ReadingCommandsReportAndChangeNothing : Prop :=
  ∀ (s : State) (p : Port) (tag : Byte),
    let link (q : Port) : List Byte :=
      let l := s.links.get q
      [l.state.code, BitVec.ofInt 8 l.allowance, flagByte l.saturated] ++ bytes16 l.timeout
    (s.takes p ⟨tag, 0x20, []⟩ = true → exec (.present p tag []) s =
      .next ((s.takeHead p).conclude p ⟨tag, 0x20, []⟩ none
        (.done [(s.links.get p).state.code, BitVec.ofInt 8 (s.links.get p).allowance]))) ∧
    (s.takes p ⟨tag, 0x23, []⟩ = true → exec (.readLink p tag []) s =
      .next ((s.takeHead p).conclude p ⟨tag, 0x23, []⟩ none (.done (link .t1 ++ link .t2 ++ link .d)))) ∧
    (∀ z : ZoneNo, s.takes p ⟨tag, 0x15, [byte z.val]⟩ = true → exec (.readZone p tag [byte z.val]) s =
      .next ((s.takeHead p).conclude p ⟨tag, 0x15, [byte z.val]⟩ (some z) (.done (
        let r := s.zones[z]
        byte z.val :: flagByte r.enabled :: bytes16 r.base ++ bytes16 r.size ++
          [portOrNone r.owner, flagByte r.stale, r.treatment.code] ++
          (r.summary.elim [0xFF, 0xFF] fun i => bytes16 i.val) ++ bytes16 r.unack ++ bytes16 r.standing)))) ∧
    (∀ b : Byte, b.toNat > 63 → s.takes p ⟨tag, 0x15, [b]⟩ = true →
      (Instr.readZone p tag [b]).refusedWith s p ⟨tag, 0x15, [b]⟩ ⟨.range, [b]⟩) ∧
    (s.takes p ⟨tag, 0x52, []⟩ = true → exec (.readStrings p tag []) s =
      .next ((s.takeHead p).conclude p ⟨tag, 0x52, []⟩ none (.done ((List.finRange 16).flatMap fun n =>
        let r := s.strings[n]
        [byte r.count, r.pending.elim 0xFF byte, r.state.code, byte r.lastAnswer])))) ∧
    (s.takes p ⟨tag, 0x93, []⟩ = true → exec (.readCounters p tag []) s =
      .next ((s.takeHead p).conclude p ⟨tag, 0x93, []⟩ none (.done ((List.finRange 4).flatMap fun j =>
        let k := s.counters[j]
        [k.event.code, k.ports.setByte, k.zone.elim 0xFF fun z => byte z.val, k.mode.code] ++ bytes32 k.value))))

/-! ### Links and the handover slot (chapter 3) -/

/-- SET TIMEOUT and SET ALLOWANCE (R54, R55): the requester's own value, clamped; the running timer, the link state and the
other ports' records stay; SET ALLOWANCE clears the saturated flag. -/
def Obligations.TimeoutAndAllowanceAreClamped : Prop :=
  ∀ (s : State) (p : Port) (tag hi lo b : Byte),
    (let t := max 1 (min 300 (number16 hi lo))
     s.takes p ⟨tag, 0x21, [hi, lo]⟩ = true → exec (.setTimeout p tag [hi, lo]) s =
      .next (((s.takeHead p).setLink p { s.links.get p with timeout := t }).conclude p ⟨tag, 0x21, [hi, lo]⟩ none
        (.done (bytes16 t)))) ∧
    (let n := min 127 b.toNat
     s.takes p ⟨tag, 0x22, [b]⟩ = true → exec (.setAllowance p tag [b]) s =
      .next (((s.takeHead p).setLink p { s.links.get p with allowance := n, saturated := false }).conclude
        p ⟨tag, 0x22, [b]⟩ none (.done [byte n])))

/-- POST HANDOVER and TAKE HANDOVER from a telemetry port (R58, R59): a post replaces the slot, POSTED by a LIVE requester
and LAPSED by a SILENT one, with a HANDOVER notice; a take answers the slot as it stood and empties it, without notice. -/
def Obligations.HandoverIsPostedAndTaken : Prop :=
  ∀ (s : State) (p : Port) (tag hi lo : Byte), p ≠ .d →
    (let state : SlotState := if (s.links.get p).state = .live then .posted else .lapsed
     s.takes p ⟨tag, 0x24, [hi, lo]⟩ = true → ∃ word : Word16, word.toNat = number16 hi lo ∧
      exec (.postHandover p tag [hi, lo]) s =
        .next ((State.raise { s.takeHead p with slot := ⟨state, word, some p⟩ } .handover).conclude
          p ⟨tag, 0x24, [hi, lo]⟩ none (.done [state.code, hi, lo, portCode p]))) ∧
    (s.takes p ⟨tag, 0x25, []⟩ = true → exec (.takeHandover p tag []) s =
      .next (State.conclude { s.takeHead p with slot := ⟨.empty, 0, none⟩ } p ⟨tag, 0x25, []⟩ none
        (.done (s.slot.state.code :: bytes16 s.slot.word.toNat ++ [portOrNone s.slot.poster]))))

/-- An expiry of a running silence timer (R48, R50): the allowance count falls by 1, or at -128 stays and saturates, and
the timer restarts with the timeout in force; a LIVE port whose count was 0 or below goes SILENT and lapses: its zones lose
their owner and are stale, each counted once under ZONE LAPSES; its hold is freed; its POSTED word is LAPSED; and LAPSE,
HOLD, HANDOVER and LINK are raised as far as they apply. Nothing else changes. -/
def Obligations.SilenceTimerExpirySpendsOrLapses : Prop :=
  ∀ (s : State) (p : Port), s.resetAsserted = false → (s.links.get p).timer.isSome →
    let l := s.links.get p
    let dies : Prop := l.state = .live ∧ l.allowance ≤ 0
    let mine (z : ZoneNo) : Bool := s.zones[z].owner = some p
    ∃ t, exec (.silenceTimerExpiry p) s = .next t ∧
      t.links = s.links.set p
        { state := if l.allowance > 0 then l.state else .silent
          timer := some l.timeout
          timeout := l.timeout
          allowance := if l.allowance > -128 then l.allowance - 1 else l.allowance
          saturated := l.saturated || decide (l.allowance ≤ -128) } ∧
      (¬ dies → t = { s with links := t.links }) ∧
      (dies →
        t = { s with links := t.links, zones := t.zones, hold := t.hold, slot := t.slot, notices := t.notices,
                     counters := t.counters } ∧
        (∀ z : ZoneNo, t.zones[z] = if mine z then { s.zones[z] with owner := none, stale := true } else s.zones[z]) ∧
        t.hold = (if s.hold.holder = some p then .free else s.hold) ∧
        t.slot = (if s.slot.state = .posted ∧ s.slot.poster = some p then { s.slot with state := .lapsed } else s.slot) ∧
        (∀ (q : Port) (k : NoticeKind), (t.notices.get q)[k.index] =
          ((s.notices.get q)[k.index] || ((s.routing[k.index]).get q && match k with
            | .link => true
            | .lapse => (List.finRange 64).any mine
            | .hold => decide (s.hold.holder = some p)
            | .handover => decide (s.slot.state = .posted ∧ s.slot.poster = some p)
            | .alarm | .horn | .failure | .watch | .fault | .test => false))) ∧
        (∀ j : CounterNo, t.counters[j] = Counter.bump^[(List.finRange 64).countP fun z =>
          mine z && s.counters[j].counts .zoneLapses (some p) (some z)] s.counters[j]))

/-- A valid frame arriving (R47, R155, R162): the port's silence timer restarts with its timeout and a SILENT port
becomes LIVE with a LINK notice; the command joins the queue if it has room, else it is answered QUEUE FULL if the
reply queue has room, else dropped, and in both of these it is counted under COMMANDS REFUSED for the port and no
zone. One event for the rest of a frame is the model's choice (log entry 15). -/
def Obligations.ValidFrameIsQueuedAndKeepsTheLink : Prop :=
  ∀ (s : State) (p : Port) (tag code : Byte) (payload : List Byte),
    s.resetAsserted = false → (s.ports.get p).inBreak = false → payload.length ≤ 72 →
    (s.ports.get p).rx.within ⟨tag, code, payload⟩ = true →
    let l := s.links.get p
    let q := s.ports.get p
    let heard := (s.setPort p { q with rx := .idle }).setLink p { l with state := .live, timer := some l.timeout }
    let u := if l.state = .silent then heard.raise .link else heard
    exec (.validFrameArrival p tag code payload) s = .next (
      if q.commands.length < 8 then
        u.setPort p { q with rx := .idle, commands := q.commands ++ [⟨tag, code, payload⟩] }
      else State.report
        (if q.replies.length < 8 then
          u.setPort p { q with rx := .idle, replies := q.replies ++ [⟨tag, code, .queueFull, []⟩] }
        else u) .commandsRefused (some p) none)

/-! ### Alarms and the horn (chapter 4) -/

/-- RAISE ALARM past its checks (R63, R65, R66, R71, R74): each named lamp takes its transition; its zone's
unacknowledged count rises by 1 if it entered NEW from NORMAL; every entry to NEW raises ALARM and is counted for
the requester and the lamp's zone; the horn is settled once; the reply gives the batch and the number of lamps
changed. Which records the taking reads is the model's reading (log entry 11). -/
def Obligations.RaiseAlarmEntersNew : Prop :=
  ∀ (s : State) (p : Port) (tag hi lo n : Byte) (upsets : List Upset),
    let payload := [hi, lo, n]
    let c := Instr.raiseAlarm p tag payload upsets
    let first := number16 hi lo
    let batch := lampsFrom first n.toNat
    let r := s.judgedIn p c
    let enters (i : Lamp) : Bool := r.lamps[i].alarm = .normal || r.lamps[i].alarm = .returned
    s.takes p ⟨tag, 0x30, payload⟩ = true → p ≠ .d →
    1 ≤ n.toNat → n.toNat ≤ 64 → first + n.toNat ≤ 4096 →
    (∀ i ∈ batch, s.mayWrite p i = true ∧ r.lamps[i].attrs.alarmCapable = true) →
    r.passes p .alarm first (first + n.toNat - 1) →
    ∃ (L : Vector LampRecord 4096) (Z : Vector ZoneRecord 64) (C : Vector Counter 4),
      (∀ i : Lamp, L[i] = if i ∈ batch ∧ enters i = true then { r.lamps[i] with alarm := .new } else r.lamps[i]) ∧
      (∀ z : ZoneNo, Z[z] = { r.zones[z] with
        unack := r.zones[z].unack + batch.countP fun i => s.zoneOf i.val = some z && r.lamps[i].alarm = .normal }) ∧
      (∀ j : CounterNo, C[j] = Counter.bump^[batch.countP fun i =>
        enters i && r.counters[j].counts .alarmsRaised (some p) (s.zoneOf i.val)] r.counters[j]) ∧
      (let changed : State := { r with lamps := L, zones := Z, counters := C }
       let u := if batch.any enters then changed.raise .alarm else changed
       exec c s = .next (((u.settleHorn (batch.any fun i => enters i && r.lamps[i].attrs.hornClass = .sound)).hitRecorded
         p 0x30 0x00 .alarm first (first + n.toNat - 1)).conclude p ⟨tag, 0x30, payload⟩ (s.zoneOf first)
         (.done [hi, lo, n, byte (batch.countP enters)])))

/-- CLEAR ALARM past its checks (R63, R65, R67, R71, R74): NEW goes to RETURNED, STANDING to NORMAL with its zone's
standing count one less, the others stay; nothing is counted and no ALARM raised; the horn is settled once; the
reply gives the batch and the number of lamps changed. Which records the taking reads is the model's reading (log
entry 11). -/
def Obligations.ClearAlarmLeavesUnacknowledgedReturned : Prop :=
  ∀ (s : State) (p : Port) (tag hi lo n : Byte) (upsets : List Upset),
    let payload := [hi, lo, n]
    let c := Instr.clearAlarm p tag payload upsets
    let first := number16 hi lo
    let batch := lampsFrom first n.toNat
    let r := s.judgedIn p c
    s.takes p ⟨tag, 0x31, payload⟩ = true → p ≠ .d →
    1 ≤ n.toNat → n.toNat ≤ 64 → first + n.toNat ≤ 4096 →
    (∀ i ∈ batch, s.mayWrite p i = true ∧ r.lamps[i].attrs.alarmCapable = true) →
    r.passes p .alarm first (first + n.toNat - 1) →
    ∃ (L : Vector LampRecord 4096) (Z : Vector ZoneRecord 64),
      (∀ i : Lamp, L[i] = if i ∈ batch then
        { r.lamps[i] with alarm := match r.lamps[i].alarm with
          | .normal => .normal | .new => .returned | .standing => .normal | .returned => .returned }
        else r.lamps[i]) ∧
      (∀ z : ZoneNo, Z[z] = { r.zones[z] with
        standing := r.zones[z].standing - batch.countP fun i =>
          s.zoneOf i.val = some z && r.lamps[i].alarm = .standing }) ∧
      exec c s = .next (((State.settleHorn { r with lamps := L, zones := Z } false).hitRecorded
        p 0x31 0x00 .alarm first (first + n.toNat - 1)).conclude p ⟨tag, 0x31, payload⟩ (s.zoneOf first)
        (.done [hi, lo, n, byte (batch.countP fun i => r.lamps[i].alarm = .new || r.lamps[i].alarm = .standing)]))

/-- ACKNOWLEDGE past its checks, in its three scopes (R63, R68 to R71): LAMPS over its batch, ZONE over the range of the
enabled zone, ALL, from port D alone, over every lamp; and its refusals RANGE and NOT OWNER. A scope value of none of
the three is RANGE too, and the reply gives what a payload of its length carries, which is the model's reading (log
entry 17). Which records the taking reads is the model's reading (log entry 11). -/
def Obligations.AcknowledgeInEveryScope : Prop :=
  ∀ (s : State) (p : Port) (tag : Byte) (upsets : List Upset),
    (∀ hi lo n : Byte,
      let payload := [0x01, hi, lo, n]
      let c := Instr.acknowledge p tag payload upsets
      let first := number16 hi lo
      s.takes p ⟨tag, 0x32, payload⟩ = true →
      (1 ≤ n.toNat → n.toNat ≤ 64 → first + n.toNat ≤ 4096 →
        (p = .d ∨ ∀ i ∈ lampsFrom first n.toNat, s.mayWrite p i = true) →
        (s.judgedIn p c).passes p .ack first (first + n.toNat - 1) →
        acknowledges c s p ⟨tag, 0x32, payload⟩ .lamps [hi, lo, n] (lampsFrom first n.toNat) first
          (first + n.toNat - 1)) ∧
      (n.toNat = 0 ∨ n.toNat > 64 ∨ first + n.toNat > 4096 →
        c.refusedWith s p ⟨tag, 0x32, payload⟩ ⟨.range, [hi, lo]⟩) ∧
      (1 ≤ n.toNat → n.toNat ≤ 64 → first + n.toNat ≤ 4096 → p ≠ .d →
        ∀ i ∈ lampsFrom first n.toNat, s.mayWrite p i = false →
        (∀ k ∈ lampsFrom first n.toNat, k < i → s.mayWrite p k = true) →
        c.refusedWith s p ⟨tag, 0x32, payload⟩ ⟨.notOwner, bytes16 i.val⟩)) ∧
    (∀ b : Byte,
      let payload := [0x02, b]
      let c := Instr.acknowledge p tag payload upsets
      s.takes p ⟨tag, 0x32, payload⟩ = true →
      (b.toNat > 63 → c.refusedWith s p ⟨tag, 0x32, payload⟩ ⟨.range, [b]⟩) ∧
      (∀ z : ZoneNo, z.val = b.toNat →
        (s.zones[z].enabled = false → c.refusedWith s p ⟨tag, 0x32, payload⟩ ⟨.range, [b]⟩) ∧
        (s.zones[z].enabled = true → p ≠ .d → s.zones[z].owner ≠ some p →
          c.refusedWith s p ⟨tag, 0x32, payload⟩ ⟨.notOwner, [b, portOrNone s.zones[z].owner]⟩) ∧
        (s.zones[z].enabled = true → p = .d ∨ s.zones[z].owner = some p →
          let low := s.zones[z].base
          let high := s.zones[z].base + s.zones[z].size - 1
          (s.judgedIn p c).passes p .ack low high →
          acknowledges c s p ⟨tag, 0x32, payload⟩ .zone [b] (lampsFrom s.zones[z].base s.zones[z].size) low high))) ∧
    (let c := Instr.acknowledge .d tag [0x03] upsets
     s.takes .d ⟨tag, 0x32, [0x03]⟩ = true → (s.judgedIn .d c).passes .d .ack 0 4095 →
     acknowledges c s .d ⟨tag, 0x32, [0x03]⟩ .all [] (lampsFrom 0 4096) 0 4095) ∧
    (∀ scope a b n : Byte, scope ≠ 0x01 → scope ≠ 0x02 → scope ≠ 0x03 →
      let refused (payload carried : List Byte) : Prop := s.takes p ⟨tag, 0x32, payload⟩ = true →
        (Instr.acknowledge p tag payload upsets).refusedWith s p ⟨tag, 0x32, payload⟩ ⟨.range, carried⟩
      refused [scope, a, b, n] [a, b] ∧ refused [scope, a] [a] ∧ refused [scope] [])

/-- The horn (R74, R76, R77). At the end of an application it is SOUNDING if a SOUND-class lamp entered NEW, else QUIET
if no SOUND-class lamp is in NEW, else as it was, and one HORN notice is raised exactly if it changed. SILENCE HORN
from port D makes it QUIET, with a HORN notice if it was SOUNDING. The pin follows the state outside reset. That the
look at the lamps in NEW makes no checking read is the model's reading (log entry 13). -/
def Obligations.HornIsSettledAndSilenced : Prop :=
  (∀ (s : State) (entered : Bool), ∃ h : Horn,
    (h = .sounding ↔ entered = true ∨
      (s.horn = .sounding ∧ ∃ i : Lamp, s.lamps[i].alarm = .new ∧ s.lamps[i].attrs.hornClass = .sound)) ∧
    s.settleHorn entered = if h = s.horn then s else State.raise { s with horn := h } .horn) ∧
  (∀ (s : State) (tag : Byte), s.takes .d ⟨tag, 0x33, []⟩ = true →
    exec (.silenceHorn .d tag []) s = .next (State.conclude
      (if s.horn = .sounding then State.raise { s.takeHead .d with horn := .quiet } .horn else s.takeHead .d)
      .d ⟨tag, 0x33, []⟩ none (.done [0x00]))) ∧
  (∀ s : State, s.hornPin = true ↔ s.resetAsserted = false ∧ s.horn = .sounding)

/-! ### The frame composer (chapter 5) -/

/-- START SCAN and STOP SCAN from a telemetry port (R82, R83). START in DARK: RUNNING, pending timing in force, phase and
frame counters 0, and the first frame begun without a phase advance. STOP in RUNNING: DARK, every lamp output off, the
frame abandoned, hold and session ended with their notices. Otherwise nothing changes. The reply gives the scan state
before and the frame counter. -/
def Obligations.ScanIsStartedAndStopped : Prop :=
  ∀ (s : State) (p : Port) (tag : Byte) (upsets : List Upset), p ≠ .d →
    (s.takes p ⟨tag, 0x40, []⟩ = true →
      (s.scan = .dark → exec (.startScan p tag [] upsets) s = .next ((State.beginFrame { (s.land upsets).takeHead p with
        scan := .running
        timing := s.pendingTiming.getD s.timing
        pendingTiming := none
        slowPhase := 0
        fastPhase := 0
        frameCount := 0 }).conclude p ⟨tag, 0x40, []⟩ none (.done [0x00, 0x00, 0x00, 0x00, 0x00]))) ∧
      (s.scan = .running → exec (.startScan p tag [] upsets) s = .next (((s.land upsets).takeHead p).conclude
        p ⟨tag, 0x40, []⟩ none (.done (0x01 :: bytes32 s.frameCount))))) ∧
    (s.takes p ⟨tag, 0x41, []⟩ = true →
      (s.scan = .dark → exec (.stopScan p tag []) s = .next ((s.takeHead p).conclude p ⟨tag, 0x41, []⟩ none
        (.done (0x00 :: bytes32 s.frameCount)))) ∧
      (s.scan = .running → ∃ u : State,
        (∀ i : Lamp, u.lampOn i = false) ∧
        u = { s.takeHead p with
          scan := .dark, nextFrame := none, progress := .none, latched := u.latched, hold := .free, session := .off } ∧
        (let v := if s.hold = .free then u else u.raise .hold
         let w := if s.session = .off then v else v.raise .test
         exec (.stopScan p tag []) s = .next (w.conclude p ⟨tag, 0x41, []⟩ none (.done (0x01 :: bytes32 s.frameCount))))))

/-- SET LEVELS from port D and SET TIMING from a telemetry port (R91, R92): all values at once, clamped; the limits at
once; frame and flash periods at once in DARK, where pending timing becomes absent, and pending in RUNNING; the
reply gives the values as set. That the phase counters stay in DARK is the model's reading (log entry 23). -/
def Obligations.LevelsAndTimingAreSet : Prop :=
  (∀ (s : State) (tag b f : Byte) (g : Vector Byte 8),
    let payload := b :: f :: g.toList
    s.takes .d ⟨tag, 0x42, payload⟩ = true → ∃ G : Vector Nat 8, (∀ k : Fin 8, G[k] = g[k].toNat) ∧
      exec (.setLevels .d tag payload) s = .next (State.conclude
        { s.takeHead .d with levels := ⟨b.toNat, max 16 f.toNat, G⟩ } .d ⟨tag, 0x42, payload⟩ none
        (.done (b :: byte (max 16 f.toNat) :: g.toList)))) ∧
  (∀ (s : State) (p : Port) (tag f sl fa h l : Byte), p ≠ .d →
    let payload := [f, sl, fa, h, l]
    let t : Timing := ⟨max 5 (min 40 f.toNat), max 20 (min 200 sl.toNat), max 4 (min 50 fa.toNat)⟩
    let hold := max 1 (min 20 h.toNat)
    let test := max 5 (min 120 l.toNat)
    s.takes p ⟨tag, 0x43, payload⟩ = true → exec (.setTiming p tag payload) s = .next (State.conclude
      (if s.scan = .dark then { s.takeHead p with holdLimit := hold, testLimit := test, timing := t, pendingTiming := none }
       else { s.takeHead p with holdLimit := hold, testLimit := test, pendingTiming := some t })
      p ⟨tag, 0x43, payload⟩ none
      (.done [byte t.period, byte t.slow, byte t.fast, byte hold, byte test])))

/-- The board hold (R93 to R96). HOLD BOARD: NOT RUNNING in DARK, SILENT from a SILENT port, HELD naming holder and start
frame while another port holds it; else the hold is taken at the frame counter for the limit in force, or kept as it is by
its holder. RELEASE HOLD: without notice by its holder, with a HOLD notice by port D, NOT HOLDER for the others, and no
change while FREE. The limit's expiry frees a HELD hold with a HOLD notice. -/
def Obligations.HoldIsTakenReleasedAndExpires : Prop :=
  ∀ (s : State) (p : Port) (tag : Byte),
    (let c := Instr.holdBoard p tag []
     let cmd : Command := ⟨tag, 0x44, []⟩
     s.takes p cmd = true →
      (s.scan = .dark → c.refusedWith s p cmd ⟨.notRunning, []⟩) ∧
      (s.scan = .running → (s.links.get p).state = .silent → c.refusedWith s p cmd ⟨.silent, []⟩) ∧
      (s.scan = .running → (s.links.get p).state = .live →
        (s.hold = .free → exec c s = .next (State.conclude { s.takeHead p with hold := .held p s.frameCount s.holdLimit }
          p cmd none (.done (portCode p :: bytes32 s.frameCount)))) ∧
        (∀ q start limit, s.hold = .held q start limit →
          (q = p → exec c s = .next ((s.takeHead p).conclude p cmd none (.done (portCode p :: bytes32 start)))) ∧
          (q ≠ p → c.refusedWith s p cmd ⟨.held, portCode q :: bytes32 start⟩)))) ∧
    (let c := Instr.releaseHold p tag []
     let cmd : Command := ⟨tag, 0x45, []⟩
     s.takes p cmd = true →
      (s.hold = .free → exec c s = .next ((s.takeHead p).conclude p cmd none (.done [0x00]))) ∧
      (∀ q start limit, s.hold = .held q start limit →
        (q = p → exec c s = .next (State.conclude { s.takeHead p with hold := .free } p cmd none (.done [0x00]))) ∧
        (q ≠ p → p = .d → exec c s =
          .next ((State.raise { s.takeHead p with hold := .free } .hold).conclude p cmd none (.done [0x00]))) ∧
        (q ≠ p → p ≠ .d → c.refusedWith s p cmd ⟨.notHolder, [portCode q]⟩))) ∧
    (s.resetAsserted = false → s.hold ≠ .free →
      exec .holdLimitExpiry s = .next (State.raise { s with hold := .free } .hold))

/-- Lamp test (R98 to R101). LAMP TEST START from port D is NOT RUNNING in DARK; with the session OFF it begins one of
source COMMAND, else nothing changes. The input's assertion begins one of source PIN only while RUNNING with the session
OFF. LAMP TEST STOP, the limit's expiry, and the input's release for a PIN session end it. Each start and each end raises
one TEST notice. -/
def Obligations.LampTestSessionsStartAndEnd : Prop :=
  ∀ (s : State) (tag : Byte),
    (let c := Instr.lampTestStart .d tag []
     let cmd : Command := ⟨tag, 0x46, []⟩
     s.takes .d cmd = true →
      (s.scan = .dark → c.refusedWith s .d cmd ⟨.notRunning, []⟩) ∧
      (s.scan = .running → s.session = .off → exec c s = .next ((State.raise { s.takeHead .d with
        session := .on .command s.testLimit } .test).conclude .d cmd none (.done [0x01, 0x02]))) ∧
      (s.scan = .running → ∀ source limit, s.session = .on source limit → exec c s =
        .next ((s.takeHead .d).conclude .d cmd none (.done [0x01, source.code])))) ∧
    (let c := Instr.lampTestStop .d tag []
     let cmd : Command := ⟨tag, 0x47, []⟩
     s.takes .d cmd = true →
      (s.session = .off → exec c s = .next ((s.takeHead .d).conclude .d cmd none (.done [0x00]))) ∧
      (s.session ≠ .off → exec c s =
        .next ((State.raise { s.takeHead .d with session := .off } .test).conclude .d cmd none (.done [0x00])))) ∧
    (s.resetAsserted = false → s.testInput = false →
      (s.scan = .running → s.session = .off → exec .lampTestInputAssertion s =
        .next (State.raise { s with testInput := true, session := .on .pin s.testLimit } .test)) ∧
      (s.scan = .dark ∨ s.session ≠ .off → exec .lampTestInputAssertion s = .next { s with testInput := true })) ∧
    (s.resetAsserted = false → s.testInput = true →
      (∀ limit, s.session = .on .pin limit → exec .lampTestInputRelease s =
        .next (State.raise { s with testInput := false, session := .off } .test)) ∧
      ((∀ limit, s.session ≠ .on .pin limit) → exec .lampTestInputRelease s = .next { s with testInput := false })) ∧
    (s.resetAsserted = false → s.session ≠ .off →
      exec .lampTestLimitExpiry s = .next (State.raise { s with session := .off } .test))

/-- The phase advance (R82, R85): at every frame start after the first following START SCAN, hold or lamp test or not, a
pending flash period that differs is put in force with its counter at 0, any other flash counter advances modulo its
period, the pending frame period is put in force, the pending timing becomes absent, and the frame counter rises by 1
and wraps. The first frame start after START SCAN leaves all three counters at 0. That a frame start is admitted once
the strings of the frame before have answered is the model's reading (log entry 22). -/
def Obligations.PhaseAdvanceAtFrameStart : Prop :=
  (∀ (s : State) (upsets : List Upset), s.resetAsserted = false → s.scan = .running → s.progress = .answering [] →
    ∃ t, exec (.frameStart upsets) s = .next t ∧
      (∀ new, s.pendingTiming = some new →
        t.timing = new ∧
        t.slowPhase = (if new.slow ≠ s.timing.slow then 0 else (s.slowPhase + 1) % s.timing.slow) ∧
        t.fastPhase = (if new.fast ≠ s.timing.fast then 0 else (s.fastPhase + 1) % s.timing.fast)) ∧
      (s.pendingTiming = none →
        t.timing = s.timing ∧
        t.slowPhase = (s.slowPhase + 1) % s.timing.slow ∧ t.fastPhase = (s.fastPhase + 1) % s.timing.fast) ∧
      t.pendingTiming = none ∧
      t.frameCount.toNat = (s.frameCount.toNat + 1) % 4294967296) ∧
  (∀ (s : State) (p : Port) (tag : Byte) (upsets : List Upset), p ≠ .d → s.takes p ⟨tag, 0x40, []⟩ = true →
    s.scan = .dark → ∃ t, exec (.startScan p tag [] upsets) s = .next t ∧
      t.slowPhase = 0 ∧ t.fastPhase = 0 ∧ t.frameCount = 0)

/-- The picture of a frame (R84, R86, R87 layer 1, R90, R102, R103, R106, R110, R111). An admitted frame start is upsets,
phase advance, picture. After its reads every record agrees with its check code; a FREE hold takes a fresh snapshot of
the records as read and a HELD one keeps the snapshot; each lamp's last rendering is LIT with 16 under lamp test and
the snapshot's otherwise; its drive count is S if its drawn aspect is on by the phase counters and 0 if not; each
pending module count is put in force: its string is UNUSED or INTACT with no pending count, and the lamps on modules
taken away take health UNKNOWN if supervised and run count 0 and lose their failure list entries; every other string,
health, run count and entry stays. The order of the reads is a free value (log entry 10), and when a frame start is
admitted is the model's reading (log entry 22). -/
def Obligations.FrameStartDrawsThePicture : Prop :=
  (∀ (s : State) (upsets : List Upset), s.resetAsserted = false → s.scan = .running → s.progress = .answering [] →
    exec (.frameStart upsets) s = .next (s.land upsets).phaseAdvance.beginFrame) ∧
  (∀ s : State,
    let r := s.frameReads
    let t := s.beginFrame
    let drawn (i : Lamp) : Rendering := if s.session = .off then t.snapshot[i] else ⟨.lit, 16⟩
    let on (a : Aspect) : Prop := a = .lit ∨ (a = .slow ∧ 2 * s.slowPhase < s.timing.slow) ∨
      (a = .fast ∧ 2 * s.fastPhase < s.timing.fast)
    let leaves (i : Lamp) : Bool := (List.finRange 16).any fun n => s.strings[n].pending.any fun count =>
      256 * n.val + 8 * count ≤ i.val && i.val < 256 * n.val + 8 * s.strings[n].count
    t = { s with lamps := t.lamps, zones := r.zones, horn := r.horn, fault := r.fault, notices := r.notices
                 snapshot := t.snapshot, drive := t.drive, failures := t.failures, strings := t.strings
                 progress := .driving 0, nextFrame := some s.timing.period } ∧
    (s.hold = .free → ∀ i : Lamp, t.snapshot[i] = r.resolve i.val r.lamps[i]) ∧
    (s.hold ≠ .free → t.snapshot = s.snapshot) ∧
    (∀ i : Lamp,
      t.lamps[i].integrity = .clean ∧
      t.lamps[i] = { r.lamps[i] with
        rendering := drawn i
        health := if leaves i && r.lamps[i].attrs.supervised then .unknown else r.lamps[i].health
        runCount := if leaves i then 0 else r.lamps[i].runCount } ∧
      (on (drawn i).aspect → t.drive[i] = (drawn i).count) ∧ (¬ on (drawn i).aspect → t.drive[i] = 0)) ∧
    (∀ n : StringNo, t.strings[n] = match s.strings[n].pending with
      | none => s.strings[n]
      | some count => { count := count, pending := none, state := if count = 0 then .unused else .intact
                        lastAnswer := if count = 0 then 0 else s.strings[n].lastAnswer }) ∧
    t.failures = s.failures.filter fun e => !leaves e.lamp)

/-- Aspect precedence and the level arithmetic of a fresh snapshot (R43 to R45, R64, R87 layers 2 to 6, R88, R89): suspect,
override, own alarm, summary role by the lowest-numbered deciding zone, telemetry aspect under the stale treatment of the
lamp's zone; the level of every lit lamp from board level, group level and floor, quartered before the floor only under a
stale DIM zone at the lowest layer. -/
def Obligations.AspectPrecedenceAndLevels : Prop :=
  ∀ (s : State) (n : Nat) (l : LampRecord),
    let level (quartered : Bool) : Nat :=
      let l0 := (s.levels.board * s.levels.groups[l.attrs.dimGroup] + 127) / 255
      max (if quartered then l0 / 4 else l0) s.levels.floor
    let shows (a : Aspect) (quartered : Bool) : Prop :=
      s.resolve n l = ⟨a, if a = .dark then 0 else (level quartered * 16 + 128) / 256⟩
    let decides (z : ZoneNo) : Prop := s.zones[z].enabled = true ∧ s.zones[z].summary.map Fin.val = some n ∧
      (s.zones[z].unack > 0 ∨ s.zones[z].standing > 0)
    (l.suspect = true → shows .slow false) ∧
    (l.suspect = false →
      (∀ a, l.override = some a → shows a false) ∧
      (l.override = none →
        (l.alarm = .new → shows .fast false) ∧ (l.alarm = .standing → shows .lit false) ∧
        (l.alarm = .returned → shows .slow false) ∧
        (l.alarm = .normal →
          (∀ z, decides z → (∀ y, y < z → ¬ decides y) →
            shows (if s.zones[z].unack > 0 then .fast else .lit) false) ∧
          ((∀ z, ¬ decides z) →
            (∀ z, s.zoneOf n = some z → s.zones[z].stale = true →
              (s.zones[z].treatment = .keep → shows l.telemetry false) ∧
              (s.zones[z].treatment = .dim → shows l.telemetry true) ∧
              (s.zones[z].treatment = .blink → shows (if l.telemetry = .lit then .slow else l.telemetry) false)) ∧
            ((∀ z, s.zoneOf n = some z → s.zones[z].stale = false) → shows l.telemetry false)))))

/-! ### Strings and lamp supervision (chapter 6) -/

/-- SUB_FRAME and FRAME_END (R1, R2, R84, R106): after sub-frame j has been shifted and latched, a lamp's output is on
exactly if its module is below its string's module count and j is below its drive count; the close of the sixteenth
sub-frame is counted once under FRAMES SCANNED, for no port and no zone, and then the strings with modules are to
answer. That modules left out count as off is the model's choice (log entry 19). -/
def Obligations.SubFramesDriveTheLamps : Prop :=
  (∀ (s : State) (j : Nat), s.resetAsserted = false → s.progress = .driving j → j < 16 →
    ∃ t, exec .subFrame s = .next t ∧ t = { s with latched := t.latched, progress := .driving (j + 1) } ∧
      ∀ (i : Lamp) (n : StringNo), n.val = i.val / 256 →
        t.lampOn i = decide (i.val % 256 / 8 < s.strings[n].count ∧ j < s.drive[i])) ∧
  (∀ s : State, s.resetAsserted = false → s.progress = .driving 16 →
    ∃ left : List StringNo, (∀ n, n ∈ left ↔ 0 < s.strings[n].count) ∧ left.Nodup ∧
      exec .frameEnd s = .next (State.report { s with progress := .answering left } .framesScanned none none))

/-- A string's frame end (R108, R109): the chain answer, at most 63, is stored; if it is the module count the string is
INTACT and its observations are delivered; if not, the string is BROKEN, an INTACT one reports a CHAIN fault, and no
observation is delivered. That answers come between the frame end and the next frame start, and what the event
carries, are the model's (log entries 18 and 22). -/
def Obligations.ChainAnswerDecidesTheString : Prop :=
  ∀ (s : State) (n : StringNo) (answering : Nat) (sensed : List Sensed) (upsets : List Upset) (left : List StringNo),
    s.resetAsserted = false → s.progress = .answering left → n ∈ left →
    let a := min 63 answering
    let u : State := { s.land upsets with progress := .answering (left.erase n) }
    (a = s.strings[n].count → ∃ t, exec (.stringFrameEnd n answering sensed upsets) s = .next t ∧
      t = State.deliver (u.setString n { s.strings[n] with state := .intact, lastAnswer := a }) n sensed ∧
      t.strings = s.strings.set n.val { s.strings[n] with state := .intact, lastAnswer := a } n.isLt) ∧
    (a ≠ s.strings[n].count →
      let v := u.setString n { s.strings[n] with state := .broken, lastAnswer := a }
      exec (.stringFrameEnd n answering sensed upsets) s =
        .next (if s.strings[n].state = .intact then v.reportFault .chain (.string n) else v))

/-- A delivery (R10, R11, R113, R115, R116, R118, R124 to R126): each lamp on the string's modules is read, and, if it is
then supervised, takes its observation by the thresholds; no other field and no other lamp changes; the failure list,
its overflow flag and the notices but FAULT and HORN, which the reads can raise, stand as after the declarations and
the returns to GOOD reported one after another in rising lamp number; each declaration is counted once under LAMP
FAILURES, for no port and the lamp's zone. That unsupervised lamps are read too is the model's reading (log entry
12). -/
def Obligations.DeliveryJudgesEachLamp : Prop :=
  ∀ (s : State) (n : StringNo) (sensed : List Sensed),
    let t := s.deliver n sensed
    let on (i : Lamp) : Prop := 256 * n.val ≤ i.val ∧ i.val < 256 * n.val + 8 * s.strings[n].count
    let read (i : Lamp) : LampRecord := s.lamps[i].checked
    let after (i : Lamp) : Health × Nat := healthAfter s.failThreshold s.recoveryThreshold (read i).health (read i).runCount
      (classify s.drive[i] (sensed.getD (i.val - 256 * n.val) ⟨false, false⟩))
    let failed (h : Health) : Bool := h = .opened || h = .stuck
    t = { s with lamps := t.lamps, zones := t.zones, horn := t.horn, fault := t.fault, notices := t.notices
                 counters := t.counters, failures := t.failures, overflow := t.overflow } ∧
    (∀ i : Lamp, on i → t.lamps[i] = if (read i).attrs.supervised then
      { read i with health := (after i).1, runCount := (after i).2 } else read i) ∧
    (∀ i : Lamp, ¬ on i → t.lamps[i] = s.lamps[i]) ∧
    (∀ j : CounterNo, t.counters[j] = Counter.bump^[(lampsFrom (256 * n.val) (8 * s.strings[n].count)).countP fun i =>
      (read i).attrs.supervised && !failed (read i).health && failed (after i).1 &&
        s.counters[j].counts .lampFailures none (s.zoneOf i.val)] s.counters[j]) ∧
    (let told := (lampsFrom (256 * n.val) (8 * s.strings[n].count)).foldl (fun (u : State) i =>
        if !(read i).attrs.supervised then u
        else if !failed (read i).health && failed (after i).1 then
          u.declare i (if (after i).1 = .opened then .opened else .stuck)
        else if (read i).health ≠ .good ∧ (after i).1 = .good then u.becameGood i
        else u) s
     t.failures = told.failures ∧ t.overflow = told.overflow ∧
     ∀ (p : Port) (k : NoticeKind), k ≠ .fault → k ≠ .horn → (t.notices.get p)[k.index] = (told.notices.get p)[k.index])

/-- The kinds of an observation, by drive count and the two observations (R114). -/
def Obligations.ObservationKinds : Prop :=
  ∀ (d : Nat) (driven undriven : Bool), d ≤ 16 →
    (d = 0 → driven = false → classify d ⟨driven, undriven⟩ = if undriven then .stuckMismatch else .neutral) ∧
    (1 ≤ d → d ≤ 15 → classify d ⟨driven, undriven⟩ =
      match driven, undriven with
      | true, false => .healthy
      | false, false => .openMismatch
      | true, true => .stuckMismatch
      | false, true => .stuckMismatch) ∧
    (d = 16 → undriven = false → classify d ⟨driven, undriven⟩ = if driven then .healthy else .openMismatch)

/-- SET STRING from a telemetry port and putting a module count in force (R110, R111, R127). The count is clamped to 32;
in RUNNING it becomes pending, in DARK it is put in force; a number above 15 is RANGE. In force: the string is UNUSED
or INTACT, its pending count absent, its last answer 0 if it has no modules; each lamp on a module taken away is read,
takes health UNKNOWN if supervised and run count 0, and loses its failure list entry; no other lamp changes. The
reply's last byte is a free value (log entry 9); that removals read is the model's reading (log entry 12). The order
of the reads of several removed lamps is its choice (log entry 26). -/
def Obligations.ModuleCountsAreSetAndPutInForce : Prop :=
  (∀ (s : State) (p : Port) (tag b m : Byte) (upsets : List Upset), p ≠ .d →
    let c := Instr.setString p tag [b, m] upsets
    let cmd : Command := ⟨tag, 0x50, [b, m]⟩
    let taken := (s.land upsets).takeHead p
    s.takes p cmd = true →
    (b.toNat > 15 → c.refusedWith s p cmd ⟨.range, [b]⟩) ∧
    (∀ n : StringNo, n.val = b.toNat →
      (s.scan = .dark → exec c s = .next ((taken.putInForce n (min 32 m.toNat)).conclude p cmd none
        (.done [b, byte (min 32 m.toNat), Config.stringInForce]))) ∧
      (s.scan = .running → exec c s =
        .next ((taken.setString n { s.strings[n] with pending := some (min 32 m.toNat) }).conclude p cmd none
          (.done [b, byte (min 32 m.toNat), Config.stringPending]))))) ∧
  (∀ (s : State) (n : StringNo) (count : Nat),
    let t := s.putInForce n count
    let old := s.strings[n]
    let removed (i : Lamp) : Prop := 256 * n.val + 8 * count ≤ i.val ∧ i.val < 256 * n.val + 8 * old.count
    t = { s with lamps := t.lamps, zones := t.zones, horn := t.horn, fault := t.fault, notices := t.notices
                 failures := t.failures, strings := t.strings } ∧
    t.strings = s.strings.set n.val
      { count := count, pending := none, state := if count = 0 then .unused else .intact
        lastAnswer := if count = 0 then 0 else old.lastAnswer } n.isLt ∧
    (∀ i : Lamp, removed i → t.lamps[i] = { s.lamps[i].checked with
      health := if s.lamps[i].checked.attrs.supervised then .unknown else s.lamps[i].checked.health, runCount := 0 }) ∧
    (∀ i : Lamp, ¬ removed i → t.lamps[i] = s.lamps[i]) ∧
    (∀ e : FailureEntry, e ∈ t.failures ↔ e ∈ s.failures ∧ ¬ removed e.lamp) ∧ t.failures.Sublist s.failures)

/-- SET SUPERVISION (R119): ROLE from port D; from a telemetry port both thresholds are replaced at once by the values clamped
to 1 to 15, whatever the scan and link states, with no notice, and the reply gives them; they govern every observation
applied from then on; after power-up they are 3 and 8; port reset and STOP SCAN leave them. -/
def Obligations.SupervisionThresholds : Prop :=
  (∀ (s : State) (p : Port) (tag a b : Byte), s.takes p ⟨tag, 0x51, [a, b]⟩ = true →
    let fail := max 1 (min 15 a.toNat)
    let recovery := max 1 (min 15 b.toNat)
    (p = .d → (Instr.setSupervision p tag [a, b]).refusedWith s p ⟨tag, 0x51, [a, b]⟩ ⟨.role, []⟩) ∧
    (p ≠ .d → exec (.setSupervision p tag [a, b]) s = .next (State.conclude
      { s.takeHead p with failThreshold := fail, recoveryThreshold := recovery } p ⟨tag, 0x51, [a, b]⟩ none
      (.done [byte fail, byte recovery])))) ∧
  (∀ (s : State) (i : Lamp) (o : Observation), let l := (s.judgeLamp i o).lamps[i]
    (l.health, l.runCount) =
      healthAfter s.failThreshold s.recoveryThreshold s.lamps[i].health s.lamps[i].runCount o) ∧
  (∀ (rate1 rate0 lampTest : Bool) (s : State), ∃ t, exec (.powerUpReset rate1 rate0 lampTest) s = .next t ∧
    t.failThreshold = 3 ∧ t.recoveryThreshold = 8) ∧
  (∀ (p : Port) (s : State), ∃ t, exec (.portReset p) s = .next t ∧
    t.failThreshold = s.failThreshold ∧ t.recoveryThreshold = s.recoveryThreshold) ∧
  (∀ (p : Port) (tag : Byte) (payload : List Byte) (s : State), ∃ t, exec (.stopScan p tag payload) s = .next t ∧
    t.failThreshold = s.failThreshold ∧ t.recoveryThreshold = s.recoveryThreshold)

/-! ### Failure list, checking reads and fault record (chapter 7) -/

/-- The failure list (R123 to R126, R128, R129). A declaration updates the lamp's entry in place, or joins a new entry
at the end if fewer than 64 stand, or sets the overflow flag; each raises FAILURE. A lamp that becomes GOOD loses a
REPORTED entry and has an UNREPORTED one marked recovered. TAKE FAILURES returns the oldest UNREPORTED entries up to
the number asked for, removes those recovered, marks the others REPORTED, clears the overflow flag and replies as
R129 says; a number of 0 or above 16 is RANGE. That an entry takes the frame counter as it stands is the model's
reading (log entry 25). -/
def Obligations.FailureListIsKeptAndTaken : Prop :=
  (∀ (s : State) (i : Lamp) (k : FailureKind),
    let entry : FailureEntry := { lamp := i, kind := k, frame := s.frameCount, reported := false, recovered := false }
    ((∃ e ∈ s.failures, e.lamp = i) → ∃ l : List FailureEntry,
      l.length = s.failures.length ∧
      (∀ j (h : j < s.failures.length) (h' : j < l.length),
        l[j] = if s.failures[j].lamp = i then entry else s.failures[j]) ∧
      s.declare i k = State.raise { s with failures := l } .failure) ∧
    ((∀ e ∈ s.failures, e.lamp ≠ i) →
      (s.failures.length < 64 → s.declare i k = State.raise { s with failures := s.failures ++ [entry] } .failure) ∧
      (64 ≤ s.failures.length → s.declare i k = State.raise { s with overflow := true } .failure))) ∧
  (∀ (s : State) (i : Lamp),
    s.becameGood i = { s with
      failures := s.failures.filterMap fun e =>
        if e.lamp ≠ i then some e else if e.reported then none else some { e with recovered := true } }) ∧
  (∀ (s : State) (p : Port) (tag b : Byte), (s.failures.map FailureEntry.lamp).Nodup →
    s.takes p ⟨tag, 0x60, [b]⟩ = true →
    let unreported := s.failures.filter fun e => !e.reported
    let returned := unreported.take b.toNat
    (1 ≤ b.toNat → b.toNat ≤ 16 → exec (.takeFailures p tag [b]) s = .next (State.conclude
      { s.takeHead p with
        failures := s.failures.filterMap fun e =>
          if e ∈ returned then (if e.recovered then none else some { e with reported := true }) else some e
        overflow := false }
      p ⟨tag, 0x60, [b]⟩ none (.done ([flagByte s.overflow, byte returned.length,
        byte (unreported.length - returned.length)] ++ returned.flatMap fun e =>
          bytes16 e.lamp.val ++ bytes32 e.frame ++
            [byte (e.kind.code.toNat + if e.recovered then 16 else 0)])))) ∧
    (b.toNat = 0 ∨ b.toNat > 16 →
      (Instr.takeFailures p tag [b]).refusedWith s p ⟨tag, 0x60, [b]⟩ ⟨.range, [b]⟩))

/-- The checking read (R3, R73, R131, R132) and the fault report (R134, R135). A clean record is left; a single error is
corrected with a CORRECTED fault; a double error replaces the record with the suspect defaults, lowers its zone's
count by the alarm state it leaves, settles the horn, and reports an UNCORRECTABLE fault. A masked report does
nothing; an unmasked one is captured, with a FAULT notice, if no flag was set, and else sets its flag and the more
flag. A record's integrity as the model has it is its choice (log entry 5). -/
def Obligations.CheckingReadsAndFaultReports : Prop :=
  (∀ (s : State) (i : Lamp),
    let l := s.lamps[i]
    let inZone (z : ZoneNo) : Bool := s.zoneOf i.val = some z
    (l.integrity = .clean → s.checkLamp i = s) ∧
    (l.integrity = .single →
      s.checkLamp i = (s.setLamp i { l with integrity := .clean }).reportFault .corrected (.lamp i)) ∧
    (l.integrity = .double → ∃ Z : Vector ZoneRecord 64,
      (∀ z : ZoneNo, Z[z] = { s.zones[z] with
        unack := s.zones[z].unack - if inZone z && (l.alarm = .new || l.alarm = .returned) then 1 else 0
        standing := s.zones[z].standing - if inZone z && l.alarm = .standing then 1 else 0 }) ∧
      s.checkLamp i = ((State.settleHorn { s with
        zones := Z
        lamps := s.lamps.set i.val
          { telemetry := .dark, override := none, alarm := .normal
            attrs := { alarmCapable := false, hornClass := .quiet, dimGroup := 0, supervised := true }
            health := .unknown, runCount := 0, suspect := true, rendering := ⟨.dark, 0⟩, integrity := .clean } i.isLt }
        false).reportFault .uncorrectable (.lamp i)))) ∧
  (∀ (s : State) (k : FaultKind) (place : FaultPlace),
    let flagged := s.fault.flags.add k
    (s.fault.mask.has k = true → s.reportFault k place = s) ∧
    (s.fault.mask.has k = false → s.fault.flags.any = false → s.reportFault k place = State.raise { s with
      fault := { flags := flagged, mask := s.fault.mask, kind := some k, place := some place, frame := s.frameCount
                 more := s.fault.more } } .fault) ∧
    (s.fault.mask.has k = false → s.fault.flags.any = true → s.reportFault k place =
      { s with fault := { s.fault with flags := flagged, more := true } }) ∧
    (∀ j : FaultKind, flagged.has j = (s.fault.flags.has j || decide (j = k))))

/-- READ FAULT, RELEASE FAULT and SET FAULT MASK (R136 to R138; 9.2). The read reports and changes nothing: the widths of
its place field, and what stands for none, are the model's (log entries 6 and 7). A release clears the flags named,
and if none is left the record is free. The mask is replaced from a telemetry port. Both set bytes are read modulo 8.
That the three flags are sent as one set byte is the model's choice (log entry 27). -/
def Obligations.FaultRecordIsReadReleasedAndMasked : Prop :=
  ∀ (s : State) (p : Port) (tag b : Byte),
    let setByte (f : FaultSet) : Byte :=
      byte ((if f.corrected then 1 else 0) + (if f.uncorrectable then 2 else 0) + (if f.chain then 4 else 0))
    let named (k : Nat) : Bool := b.toNat / k % 2 = 1
    let f := s.fault
    let left : FaultSet := { corrected := f.flags.corrected && !named 1
                             uncorrectable := f.flags.uncorrectable && !named 2
                             chain := f.flags.chain && !named 4 }
    let mask : FaultSet := { corrected := named 1, uncorrectable := named 2, chain := named 4 }
    (s.takes p ⟨tag, 0x61, []⟩ = true → exec (.readFault p tag []) s = .next ((s.takeHead p).conclude p ⟨tag, 0x61, []⟩ none
      (.done ([setByte f.flags, setByte f.mask, (f.kind.map FaultKind.code).getD Config.faultKindNone] ++
        (match f.place with
          | some (.lamp i) => bytes16 i.val
          | some (.string n) => [byte n.val]
          | none => if Config.faultPlaceNoneIsLamp then [0xFF, 0xFF] else [0xFF]) ++
        bytes32 f.frame ++ [flagByte f.more])))) ∧
    (s.takes p ⟨tag, 0x62, [b]⟩ = true → exec (.releaseFault p tag [b]) s = .next (State.conclude { s.takeHead p with
      fault := if left.corrected || left.uncorrectable || left.chain then { f with flags := left }
        else { flags := left, mask := f.mask, kind := none, place := none, frame := 0, more := false } }
      p ⟨tag, 0x62, [b]⟩ none (.done [setByte left]))) ∧
    (p ≠ .d → s.takes p ⟨tag, 0x63, [b]⟩ = true → exec (.setFaultMask p tag [b]) s = .next (State.conclude
      { s.takeHead p with fault := { f with mask := mask } } p ⟨tag, 0x63, [b]⟩ none (.done [setByte mask])))

/-! ### Watch windows (chapter 8) -/

/-- SET WINDOW, READ WATCH and RELEASE WATCH (R141, R146, R147; 9.2): a window is replaced whole, or RANGE names it for a bad
number, lamp, set or action; the read reports capture and windows with their activity (R140) and changes nothing, with
free values where the code table has no code (log entries 6 and 8); the release empties the capture. -/
def Obligations.WatchWindowsAreSetReadAndReleased : Prop :=
  ∀ (s : State) (p : Port) (tag : Byte),
    let kindsByte (k : KindSet) : Byte := byte ((if k.aspect then 1 else 0) + (if k.attributes then 2 else 0) +
      (if k.alarm then 4 else 0) + (if k.ack then 8 else 0) + (if k.override then 16 else 0))
    let portsByte (q : PerPort Bool) : Byte :=
      byte ((if q.t1 then 1 else 0) + (if q.t2 then 2 else 0) + (if q.d then 4 else 0))
    let fields (w : Window) : List Byte :=
      bytes16 w.lower.val ++ bytes16 w.upper.val ++ [portsByte w.sources, kindsByte w.kinds, w.action.code]
    let active (w : Window) : Bool := w.lower ≤ w.upper && (w.sources.t1 || w.sources.t2 || w.sources.d) &&
      (w.kinds.aspect || w.kinds.attributes || w.kinds.alarm || w.kinds.ack || w.kinds.override)
    (∀ (n : WindowNo) (w : Window),
      let payload := byte n.val :: fields w
      s.takes p ⟨tag, 0x70, payload⟩ = true → exec (.setWindow p tag payload) s = .next (State.conclude
        { s.takeHead p with windows := s.windows.set n.val w n.isLt } p ⟨tag, 0x70, payload⟩ none (.done payload))) ∧
    (∀ n l1 l0 u1 u0 src kinds action : Byte,
      let payload := [n, l1, l0, u1, u0, src, kinds, action]
      n.toNat > 3 ∨ number16 l1 l0 > 4095 ∨ number16 u1 u0 > 4095 ∨ src.toNat > 7 ∨ kinds.toNat > 31 ∨
        action.toNat > 1 →
      s.takes p ⟨tag, 0x70, payload⟩ = true →
      (Instr.setWindow p tag payload).refusedWith s p ⟨tag, 0x70, payload⟩ ⟨.range, [n]⟩) ∧
    (s.takes p ⟨tag, 0x71, []⟩ = true → exec (.readWatch p tag []) s = .next ((s.takeHead p).conclude p ⟨tag, 0x71, []⟩ none
      (.done ((match s.capture.hit with
        | some h => [Config.captureFrozen, byte h.window.val, portCode h.port, h.code, h.scope, h.kind.code] ++
            bytes16 h.lamp.val ++ [if h.blocked then 0x01 else 0x00] ++ bytes32 h.frame
        | none => [Config.captureFree, 0xFF, 0x00, 0xFF, 0xFF, Config.watchKindNone, 0xFF, 0xFF,
            Config.watchOutcomeNone, 0x00, 0x00, 0x00, 0x00]) ++ [flagByte s.capture.more] ++
        (List.finRange 4).flatMap fun n => fields s.windows[n] ++ [flagByte (active s.windows[n])])))) ∧
    (s.takes p ⟨tag, 0x72, []⟩ = true → exec (.releaseWatch p tag []) s = .next (State.conclude
      { s.takeHead p with capture := ⟨none, false⟩ } p ⟨tag, 0x72, []⟩ none (.done [])))

/-- The watch check (R140, R142 to R145, R149), for a command of one kind touching the lamps `low` to `high`. It matches
the active windows with its port and kind whose range meets its lamps, each with the lowest lamp in both. A BLOCK
window among them refuses it, naming the lowest-numbered one, and nothing is applied; otherwise it is applied, and
then, if any matched, it is a hit. The hit goes to the lowest-numbered window matched: captured if the capture is
free, with a WATCH notice, else setting the more flag, and counted under WATCH HITS for the port and the hit lamp's
zone. Each of the commands WRITE ASPECTS, SET ATTRIBUTES, RAISE ALARM, CLEAR ALARM, FORCE LAMP, UNFORCE, UNFORCE ALL
and ACKNOWLEDGE in its three scopes that has passed its other checks and matches a BLOCK window ends so: BLOCKED, the
hit recorded, nothing applied. Which records the taking reads is the model's reading (log entry 11). -/
def Obligations.WatchCheckBlocksOrRecords : Prop :=
  (∀ (s : State) (p : Port) (k : WatchKind) (low high : Nat), high < 4096 →
    (∀ (n : WindowNo) (i : Lamp), (n, i) ∈ s.matches p k low high ↔
      (let w := s.windows[n]
       w.active = true ∧ w.sources.get p = true ∧ w.kinds.has k = true ∧ i.val = max w.lower.val low ∧
         i.val ≤ w.upper.val ∧ i.val ≤ high)) ∧
    ((s.matches p k low high).map fun h => h.1.val).Pairwise (· < ·) ∧
    (∀ (code scope : Byte) (apply : State × Answer),
      let hit (first : WindowNo × Lamp) (blocked : Bool) : Hit :=
        ⟨first.1, p, code, scope, k, first.2, blocked, s.frameCount⟩
      (s.matches p k low high = [] → s.watched p code scope k low high apply = apply) ∧
      (∀ first rest, s.matches p k low high = first :: rest →
        ((∀ h ∈ first :: rest, s.windows[h.1].action = .record) →
          s.watched p code scope k low high apply = (apply.1.recordHit (hit first false), apply.2)) ∧
        (∀ b ∈ first :: rest, s.windows[b.1].action = .block →
          (∀ h ∈ first :: rest, s.windows[h.1].action = .block → b.1 ≤ h.1) →
          s.watched p code scope k low high apply =
            (s.recordHit (hit first true), ⟨.blocked, byte b.1.val :: bytes16 b.2.val⟩))))) ∧
  (∀ (s : State) (h : Hit),
    (s.capture.hit = none → s.recordHit h =
      (State.raise { s with capture := ⟨some h, s.capture.more⟩ } .watch).report .watchHits (some h.port)
        (s.zoneOf h.lamp.val)) ∧
    (s.capture.hit ≠ none → s.recordHit h =
      State.report { s with capture := ⟨s.capture.hit, true⟩ } .watchHits (some h.port) (s.zoneOf h.lamp.val))) ∧
  (∀ (s : State) (p : Port) (tag hi lo n : Byte) (upsets : List Upset),
    let first := number16 hi lo
    let last := first + n.toNat - 1
    let batch := lampsFrom first n.toNat
    let inRange (most : Nat) : Prop := 1 ≤ n.toNat ∧ n.toNat ≤ most ∧ first + n.toNat ≤ 4096
    let owns : Prop := ∀ i ∈ batch, s.mayWrite p i = true
    (∀ aspects : List Aspect,
      let payload := hi :: lo :: n :: aspects.map Aspect.code
      s.takes p ⟨tag, 0x01, payload⟩ = true → p ≠ .d → n.toNat = aspects.length → inRange 64 → owns →
      blocked (.writeAspects p tag payload upsets) s p ⟨tag, 0x01, payload⟩ 0x00 .aspect first last) ∧
    (∀ given : List Attributes,
      let payload := hi :: lo :: n :: given.flatMap fun a =>
        [flagByte a.alarmCapable, a.hornClass.code, byte a.dimGroup.val, flagByte a.supervised]
      s.takes p ⟨tag, 0x02, payload⟩ = true → p ≠ .d → n.toNat = given.length → inRange 16 → owns →
      blocked (.setAttributes p tag payload upsets) s p ⟨tag, 0x02, payload⟩ 0x00 .attributes first last) ∧
    (∀ c cmd, (c = Instr.raiseAlarm p tag [hi, lo, n] upsets ∧ cmd = ⟨tag, 0x30, [hi, lo, n]⟩) ∨
        (c = Instr.clearAlarm p tag [hi, lo, n] upsets ∧ cmd = ⟨tag, 0x31, [hi, lo, n]⟩) →
      s.takes p cmd = true → p ≠ .d → inRange 64 → owns →
      (∀ i ∈ batch, (s.judgedIn p c).lamps[i].attrs.alarmCapable = true) →
      blocked c s p cmd 0x00 .alarm first last) ∧
    (s.takes p ⟨tag, 0x32, [0x01, hi, lo, n]⟩ = true → inRange 64 → p = .d ∨ owns →
      blocked (.acknowledge p tag [0x01, hi, lo, n] upsets) s p ⟨tag, 0x32, [0x01, hi, lo, n]⟩ 0x01 .ack first last) ∧
    (∀ z : ZoneNo, z.val = n.toNat → s.takes p ⟨tag, 0x32, [0x02, n]⟩ = true → s.zones[z].enabled = true →
      p = .d ∨ s.zones[z].owner = some p →
      blocked (.acknowledge p tag [0x02, n] upsets) s p ⟨tag, 0x32, [0x02, n]⟩ 0x02 .ack s.zones[z].base
        (s.zones[z].base + s.zones[z].size - 1)) ∧
    (s.takes .d ⟨tag, 0x32, [0x03]⟩ = true →
      blocked (.acknowledge .d tag [0x03] upsets) s .d ⟨tag, 0x32, [0x03]⟩ 0x03 .ack 0 4095) ∧
    (∀ o : Aspect, s.takes .d ⟨tag, 0x03, [hi, lo, o.code]⟩ = true → first ≤ 4095 →
      blocked (.forceLamp .d tag [hi, lo, o.code] upsets) s .d ⟨tag, 0x03, [hi, lo, o.code]⟩ 0x00 .override first first) ∧
    (s.takes .d ⟨tag, 0x04, [hi, lo]⟩ = true → first ≤ 4095 →
      blocked (.unforce .d tag [hi, lo] upsets) s .d ⟨tag, 0x04, [hi, lo]⟩ 0x00 .override first first) ∧
    (s.takes .d ⟨tag, 0x04, [0xFF, 0xFF]⟩ = true →
      blocked (.unforce .d tag [0xFF, 0xFF] upsets) s .d ⟨tag, 0x04, [0xFF, 0xFF]⟩ 0x00 .override 0 4095))

/-! ### Arbitration, notices and counters (chapters 9 and 10) -/

/-- SET ARBITRATION (R159): ROLE from port D; RANGE for any mode value but FAIR and PRIORITY; else the mode becomes the
one given, whatever the scan and link states, with no notice; the served order changes only as every taking changes
it; the reply gives the modes before and after; and the next choice is by the new mode. The empty payload of RANGE
is the model's reading of R151 (log entry 17). -/
def Obligations.ArbitrationModeIsSet : Prop :=
  ∀ (s : State) (p : Port) (tag b : Byte), s.takes p ⟨tag, 0x80, [b]⟩ = true →
    (p = .d → (Instr.setArbitration p tag [b]).refusedWith s p ⟨tag, 0x80, [b]⟩ ⟨.role, []⟩) ∧
    (p ≠ .d → b.toNat > 1 → (Instr.setArbitration p tag [b]).refusedWith s p ⟨tag, 0x80, [b]⟩ ⟨.range, []⟩) ∧
    (p ≠ .d → ∀ m : ArbMode, b = (match m with | .fair => 0x00 | .priority => 0x01) →
      ∃ t, exec (.setArbitration p tag [b]) s = .next t ∧
        t = State.conclude { s.takeHead p with mode := m } p ⟨tag, 0x80, [b]⟩ none
          (.done [(match s.mode with | .fair => 0x00 | .priority => 0x01), b]) ∧
        t.served = s.served.filter (· ≠ p) ++ [p] ∧
        t.choice = match m with
          | .fair => t.served.find? t.waiting
          | .priority => [Port.d, .t1, .t2].find? t.waiting)

/-- SET ROUTING, TAKE NOTICES, SET COUNTER, a raise and a report (R164 to R170; 9.2). A raise adds the kind to the pending
set of every port it is routed to and changes nothing else; an attention line is asserted, outside reset, while the set is
not empty. A reported event adds 1 to each counter whose selection, port filter and zone filter take it, where a WRAP
counter goes from its top to 0 and a STICK counter stays. A routing entry and a counter are replaced whole, or RANGE names
them. TAKE NOTICES returns the requester's set and empties it. -/
def Obligations.NoticesAreRoutedAndEventsCounted : Prop :=
  (∀ (s : State) (k : NoticeKind), s.raise k = { s with notices := (s.raise k).notices } ∧
    ∀ (p : Port) (j : NoticeKind), ((s.raise k).notices.get p)[j.index] =
      ((s.notices.get p)[j.index] || (decide (j = k) && (s.routing[k.index]).get p))) ∧
  (∀ (s : State) (p : Port), s.attention p = true ↔
    s.resetAsserted = false ∧ ∃ k : NoticeKind, (s.notices.get p)[k.index] = true) ∧
  (∀ (s : State) (e : CounterEvent) (p : Option Port) (z : Option ZoneNo),
    s.report e p z = { s with counters := (s.report e p z).counters } ∧
    ∀ j : CounterNo,
      let c := s.counters[j]
      let takes : Prop := c.event = e ∧ (∀ q, p = some q → c.ports.get q = true) ∧
        (p = none → ∀ q, c.ports.get q = true) ∧ (∀ y, c.zone = some y → z = some y)
      (takes → (s.report e p z).counters[j] = { c with
        value := if c.mode = .stick ∧ c.value.toNat = 4294967295 then c.value
          else BitVec.ofNat 32 ((c.value.toNat + 1) % 4294967296) }) ∧
      (¬ takes → (s.report e p z).counters[j] = c)) ∧
  (∀ (s : State) (p : Port) (tag : Byte) (k : NoticeKind) (set : Byte),
    let payload := [byte (k.index.val + 1), set]
    s.takes p ⟨tag, 0x90, payload⟩ = true →
    (∀ ports : PerPort Bool,
      set.toNat = (if ports.t1 then 1 else 0) + (if ports.t2 then 2 else 0) + (if ports.d then 4 else 0) →
      exec (.setRouting p tag payload) s = .next (State.conclude
        { s.takeHead p with routing := s.routing.set k.index.val ports k.index.isLt }
        p ⟨tag, 0x90, payload⟩ none (.done payload))) ∧
    (set.toNat > 7 → (Instr.setRouting p tag payload).refusedWith s p ⟨tag, 0x90, payload⟩
      ⟨.range, [byte (k.index.val + 1)]⟩)) ∧
  (∀ (s : State) (p : Port) (tag k set : Byte), k.toNat = 0 ∨ k.toNat > 10 →
    s.takes p ⟨tag, 0x90, [k, set]⟩ = true →
    (Instr.setRouting p tag [k, set]).refusedWith s p ⟨tag, 0x90, [k, set]⟩ ⟨.range, [k]⟩) ∧
  (∀ (s : State) (p : Port) (tag : Byte), s.takes p ⟨tag, 0x91, []⟩ = true →
    ∃ (N : PerPort (Vector Bool 10)) (hi lo : Byte),
      (∀ j : Fin 10, (N.get p)[j] = false) ∧ (∀ q : Port, q ≠ p → N.get q = s.notices.get q) ∧
      (∀ j : Fin 10, (number16 hi lo).testBit j.val = (s.notices.get p)[j]) ∧ number16 hi lo < 1024 ∧
      exec (.takeNotices p tag []) s = .next (State.conclude { s.takeHead p with notices := N } p ⟨tag, 0x91, []⟩ none
        (.done [hi, lo]))) ∧
  (∀ (s : State) (p : Port) (tag n e set z m : Byte),
    let payload := [n, e, set, z, m]
    let bad : Prop := n.toNat > 3 ∨ e.toNat = 0 ∨ e.toNat > 9 ∨ set.toNat > 7 ∨ (z.toNat > 63 ∧ z.toNat ≠ 255) ∨ m.toNat > 1
    s.takes p ⟨tag, 0x92, payload⟩ = true →
    (bad → (Instr.setCounter p tag payload).refusedWith s p ⟨tag, 0x92, payload⟩ ⟨.range, [n]⟩) ∧
    (∀ (j : CounterNo) (c : Counter), n.toNat = j.val → e = c.event.code →
      set.toNat = (if c.ports.t1 then 1 else 0) + (if c.ports.t2 then 2 else 0) + (if c.ports.d then 4 else 0) →
      z = (c.zone.elim 0xFF fun y => byte y.val) → m = c.mode.code → c.value = 0 →
      exec (.setCounter p tag payload) s = .next (State.conclude
        { s.takeHead p with counters := s.counters.set j.val c j.isLt } p ⟨tag, 0x92, payload⟩ none (.done payload))))

/-! ### Lines (chapter 9) -/

/-- Frames and receivers agree (R151, R153): the bytes of any sequence of command frames of up to 72 payload bytes, taken
without framing errors by a receiver in HUNT, with bytes other than SYNC passed over before each, bring about exactly
these commands in their order, no discard, and a receiver in HUNT again. -/
def Obligations.ReceiverReadsEveryFrameBack : Prop :=
  ∀ frames : List (List Byte × Command),
    (∀ f ∈ frames, (∀ b ∈ f.1, b ≠ 0xA5) ∧ f.2.payload.length ≤ 72) →
    Receiver.idle.feed (frames.flatMap fun f => f.1 ++ 0xA5 ::
      (byte f.2.payload.length :: f.2.tag :: f.2.code :: f.2.payload ++
        bytes16 (crc16 (byte f.2.payload.length :: f.2.tag :: f.2.code :: f.2.payload)).toNat)) =
    (.idle, frames.map fun f => .frame f.2)

/-- A byte taken, a frame discarded, a gap timer's expiry (R153, R154, R155). The byte is taken by the receiver, and
what it brings about is brought to the blocks concerned, in order: a valid frame arrives, a discard is counted for
the port. In HUNT a SYNC byte without framing error starts a frame and any other byte is passed over; within a frame
a framing error and a length above 72 discard it at once, and a check mismatch discards it and has the bytes held
taken again. The gap timer's expiry discards the frame. One event for all that a byte brings about is the model's
choice (log entry 15). -/
def Obligations.BytesAndDiscards : Prop :=
  (∀ (s : State) (p : Port) (b : Byte) (bad : Bool), s.resetAsserted = false → (s.ports.get p).inBreak = false →
    let taken := (s.ports.get p).rx.take b bad
    let t := taken.2.foldl
      (fun (u : State) o => match o with
        | .frame c => u.arrive p c
        | .discard => u.report .framesDiscarded (some p) none)
      (s.setPort p { s.ports.get p with rx := taken.1 })
    exec (.byteTaken p b bad) s = .next t ∧
    (taken.2.head? = some .discard → exec (.frameDiscard p b bad) s = .next t)) ∧
  (∀ (rx : Receiver) (b : Byte) (bad : Bool),
    (rx.phase = .hunt → bad = false → b = 0xA5 → rx.take b bad = (⟨.length, [], true⟩, [])) ∧
    (rx.phase = .hunt → bad = true ∨ b ≠ 0xA5 → rx.take b bad = (rx, [])) ∧
    (rx.phase ≠ .hunt → bad = true → rx.take b bad = (.idle, [.discard])) ∧
    (rx.phase = .length → rx.held = [] → bad = false →
      (b.toNat > 72 → rx.take b bad = (.idle, [.discard])) ∧
      (b.toNat ≤ 72 → rx.take b bad = (⟨.body, [b], true⟩, []))) ∧
    (∀ len rest, rx.phase ≠ .hunt → bad = false → rx.held ++ [b] = len :: rest → len.toNat ≤ 72 →
      (rest.length < len.toNat + 2 → rx.take b bad = (⟨.body, len :: rest, true⟩, [])) ∧
      (len.toNat + 2 ≤ rest.length → rest.length < len.toNat + 4 → rx.take b bad = (⟨.check, len :: rest, true⟩, [])) ∧
      (rest.length = len.toNat + 4 → (∀ c : Command, len :: rest ≠ c.held) →
        ∃ again, rx.take b bad = (again.1, .discard :: again.2) ∧ again = Receiver.idle.feed (len :: rest)))) ∧
  (∀ (s : State) (p : Port), s.resetAsserted = false → (s.ports.get p).rx.gap = true →
    exec (.gapTimerExpiry p) s = .next ((s.setPort p { s.ports.get p with rx := .idle }).report
      .framesDiscarded (some p) none))

/-- A port reset, the line's return to mark, and the transmitter (R151, R156, R157; 9.2). A port reset empties both
queues, discards a frame in progress, lets a reply in transmission go on, and stops the taking of bytes until the line
is back at mark: until then no byte is taken, no frame is discarded, none becomes valid, and the break is no second
port reset; nothing else changes. An idle transmitter takes the oldest reply, fills in ROOM with the free places of
the command queue and computes CHECK over the bytes after SYNC; the last byte sent leaves it idle. That such events
then leave the state as it is is the model's choice (log entry 2). -/
def Obligations.PortResetAndTransmitter : Prop :=
  ∀ (s : State) (p : Port), s.resetAsserted = false →
    let q := s.ports.get p
    (q.inBreak = false →
      let t := s.setPort p { rx := .idle, inBreak := true, commands := [], replies := [], sending := q.sending }
      (q.rx.phase = .hunt → exec (.portReset p) s = .next t) ∧
      (q.rx.phase ≠ .hunt → exec (.portReset p) s = .next (t.report .framesDiscarded (some p) none))) ∧
    (q.inBreak = true → ∀ (b tag code : Byte) (bad : Bool) (payload : List Byte),
      exec (.byteTaken p b bad) s = .next s ∧ exec (.frameDiscard p b bad) s = .next s ∧
      exec (.validFrameArrival p tag code payload) s = .next s ∧ exec (.portReset p) s = .next s) ∧
    exec (.lineReturnedToMark p) s = .next (s.setPort p { q with inBreak := false }) ∧
    (∀ r rest, q.sending = none → q.replies = r :: rest →
      let body := byte r.payload.length :: r.tag :: r.code :: r.status.code :: byte (8 - q.commands.length) :: r.payload
      exec (.transmitReply p) s = .next (s.setPort p { q with
        replies := rest, sending := some (0x5A :: body ++ bytes16 (crc16 body).toNat) })) ∧
    exec (.replySent p) s = .next (s.setPort p { q with sending := none })
end

