-- ==== Sys2Proof/Laws/Bank.lean ====
section
/-! SUPPORT. Laws of the per-port records and of the banks. -/

namespace Sys2Proof.Machine

variable {α β γ : Type} {n : Nat}

@[simp] theorem PerPort.get_set_same (x : PerPort α) (p : Port) (a : α) : (x.set p a).get p = a := by
  cases p <;> rfl

@[simp] theorem PerPort.get_set_other (x : PerPort α) {p q : Port} (a : α) (h : q ≠ p) :
    (x.set p a).get q = x.get q := by
  cases p <;> cases q <;> first | rfl | exact absurd rfl h

@[simp] theorem PerPort.get_map (x : PerPort α) (f : Port → α → β) (p : Port) : (x.map f).get p = f p (x.get p) := by
  cases p <;> rfl

@[simp] theorem PerPort.get_all (a : α) (p : Port) : (PerPort.all a).get p = a := by
  cases p <;> rfl

theorem PerPort.get_set (x : PerPort α) (p q : Port) (a : α) :
    (x.set p a).get q = if q = p then a else x.get q := by
  split
  · subst q; simp
  · simp [*]

@[simp] theorem bankMap_getElem (f : Nat → α → β) (v : Vector α n) (i : Nat) (h : i < n) :
    (bankMap f v)[i] = f i v[i] := by
  simp [bankMap]

@[simp] theorem bankZip_getElem (f : α → β → γ) (v : Vector α n) (w : Vector β n) (i : Nat) (h : i < n) :
    (bankZip f v w)[i] = f v[i] w[i] := by
  simp [bankZip]

/-- A lamp is among those of a batch exactly if its number is. -/
@[simp] theorem mem_lampsFrom (first count : Nat) (i : Lamp) :
    i ∈ lampsFrom first count ↔ first ≤ i.val ∧ i.val < first + count := by
  unfold lampsFrom lampOf?
  simp only [List.mem_filterMap, List.mem_range]
  constructor
  · rintro ⟨k, hk, h⟩
    split at h
    · cases h; simp; omega
    · cases h
  · rintro ⟨h₁, h₂⟩
    refine ⟨i.val - first, by omega, ?_⟩
    have hi := i.isLt
    have : first + (i.val - first) = i.val := by omega
    simp [this]

end Sys2Proof.Machine
end

