-- ==== Sys2Proof/Laws/State.lean ====
section
/-! SUPPORT. The fields of the state after each single update: one lemma per field and update. -/

namespace Sys2Proof.Machine.State

variable (s : State)

section setLamp
variable (i : Lamp) (r : LampRecord)
@[simp] theorem setLamp_resetAsserted : (s.setLamp i r).resetAsserted = s.resetAsserted := rfl
@[simp] theorem setLamp_lineRate : (s.setLamp i r).lineRate = s.lineRate := rfl
@[simp] theorem setLamp_ports : (s.setLamp i r).ports = s.ports := rfl
@[simp] theorem setLamp_mode : (s.setLamp i r).mode = s.mode := rfl
@[simp] theorem setLamp_served : (s.setLamp i r).served = s.served := rfl
@[simp] theorem setLamp_lamps : (s.setLamp i r).lamps = s.lamps.set i.val r i.isLt := rfl
@[simp] theorem setLamp_zones : (s.setLamp i r).zones = s.zones := rfl
@[simp] theorem setLamp_horn : (s.setLamp i r).horn = s.horn := rfl
@[simp] theorem setLamp_links : (s.setLamp i r).links = s.links := rfl
@[simp] theorem setLamp_slot : (s.setLamp i r).slot = s.slot := rfl
@[simp] theorem setLamp_scan : (s.setLamp i r).scan = s.scan := rfl
@[simp] theorem setLamp_levels : (s.setLamp i r).levels = s.levels := rfl
@[simp] theorem setLamp_timing : (s.setLamp i r).timing = s.timing := rfl
@[simp] theorem setLamp_pendingTiming : (s.setLamp i r).pendingTiming = s.pendingTiming := rfl
@[simp] theorem setLamp_holdLimit : (s.setLamp i r).holdLimit = s.holdLimit := rfl
@[simp] theorem setLamp_testLimit : (s.setLamp i r).testLimit = s.testLimit := rfl
@[simp] theorem setLamp_slowPhase : (s.setLamp i r).slowPhase = s.slowPhase := rfl
@[simp] theorem setLamp_fastPhase : (s.setLamp i r).fastPhase = s.fastPhase := rfl
@[simp] theorem setLamp_frameCount : (s.setLamp i r).frameCount = s.frameCount := rfl
@[simp] theorem setLamp_snapshot : (s.setLamp i r).snapshot = s.snapshot := rfl
@[simp] theorem setLamp_hold : (s.setLamp i r).hold = s.hold := rfl
@[simp] theorem setLamp_session : (s.setLamp i r).session = s.session := rfl
@[simp] theorem setLamp_testInput : (s.setLamp i r).testInput = s.testInput := rfl
@[simp] theorem setLamp_nextFrame : (s.setLamp i r).nextFrame = s.nextFrame := rfl
@[simp] theorem setLamp_strings : (s.setLamp i r).strings = s.strings := rfl
@[simp] theorem setLamp_progress : (s.setLamp i r).progress = s.progress := rfl
@[simp] theorem setLamp_drive : (s.setLamp i r).drive = s.drive := rfl
@[simp] theorem setLamp_latched : (s.setLamp i r).latched = s.latched := rfl
@[simp] theorem setLamp_failThreshold : (s.setLamp i r).failThreshold = s.failThreshold := rfl
@[simp] theorem setLamp_recoveryThreshold : (s.setLamp i r).recoveryThreshold = s.recoveryThreshold := rfl
@[simp] theorem setLamp_failures : (s.setLamp i r).failures = s.failures := rfl
@[simp] theorem setLamp_overflow : (s.setLamp i r).overflow = s.overflow := rfl
@[simp] theorem setLamp_fault : (s.setLamp i r).fault = s.fault := rfl
@[simp] theorem setLamp_windows : (s.setLamp i r).windows = s.windows := rfl
@[simp] theorem setLamp_capture : (s.setLamp i r).capture = s.capture := rfl
@[simp] theorem setLamp_routing : (s.setLamp i r).routing = s.routing := rfl
@[simp] theorem setLamp_notices : (s.setLamp i r).notices = s.notices := rfl
@[simp] theorem setLamp_counters : (s.setLamp i r).counters = s.counters := rfl
@[simp] theorem setLamp_pending : (s.setLamp i r).pending = s.pending := rfl
end setLamp

section setZone
variable (z : ZoneNo) (r : ZoneRecord)
@[simp] theorem setZone_resetAsserted : (s.setZone z r).resetAsserted = s.resetAsserted := rfl
@[simp] theorem setZone_lineRate : (s.setZone z r).lineRate = s.lineRate := rfl
@[simp] theorem setZone_ports : (s.setZone z r).ports = s.ports := rfl
@[simp] theorem setZone_mode : (s.setZone z r).mode = s.mode := rfl
@[simp] theorem setZone_served : (s.setZone z r).served = s.served := rfl
@[simp] theorem setZone_lamps : (s.setZone z r).lamps = s.lamps := rfl
@[simp] theorem setZone_zones : (s.setZone z r).zones = s.zones.set z.val r z.isLt := rfl
@[simp] theorem setZone_horn : (s.setZone z r).horn = s.horn := rfl
@[simp] theorem setZone_links : (s.setZone z r).links = s.links := rfl
@[simp] theorem setZone_slot : (s.setZone z r).slot = s.slot := rfl
@[simp] theorem setZone_scan : (s.setZone z r).scan = s.scan := rfl
@[simp] theorem setZone_levels : (s.setZone z r).levels = s.levels := rfl
@[simp] theorem setZone_timing : (s.setZone z r).timing = s.timing := rfl
@[simp] theorem setZone_pendingTiming : (s.setZone z r).pendingTiming = s.pendingTiming := rfl
@[simp] theorem setZone_holdLimit : (s.setZone z r).holdLimit = s.holdLimit := rfl
@[simp] theorem setZone_testLimit : (s.setZone z r).testLimit = s.testLimit := rfl
@[simp] theorem setZone_slowPhase : (s.setZone z r).slowPhase = s.slowPhase := rfl
@[simp] theorem setZone_fastPhase : (s.setZone z r).fastPhase = s.fastPhase := rfl
@[simp] theorem setZone_frameCount : (s.setZone z r).frameCount = s.frameCount := rfl
@[simp] theorem setZone_snapshot : (s.setZone z r).snapshot = s.snapshot := rfl
@[simp] theorem setZone_hold : (s.setZone z r).hold = s.hold := rfl
@[simp] theorem setZone_session : (s.setZone z r).session = s.session := rfl
@[simp] theorem setZone_testInput : (s.setZone z r).testInput = s.testInput := rfl
@[simp] theorem setZone_nextFrame : (s.setZone z r).nextFrame = s.nextFrame := rfl
@[simp] theorem setZone_strings : (s.setZone z r).strings = s.strings := rfl
@[simp] theorem setZone_progress : (s.setZone z r).progress = s.progress := rfl
@[simp] theorem setZone_drive : (s.setZone z r).drive = s.drive := rfl
@[simp] theorem setZone_latched : (s.setZone z r).latched = s.latched := rfl
@[simp] theorem setZone_failThreshold : (s.setZone z r).failThreshold = s.failThreshold := rfl
@[simp] theorem setZone_recoveryThreshold : (s.setZone z r).recoveryThreshold = s.recoveryThreshold := rfl
@[simp] theorem setZone_failures : (s.setZone z r).failures = s.failures := rfl
@[simp] theorem setZone_overflow : (s.setZone z r).overflow = s.overflow := rfl
@[simp] theorem setZone_fault : (s.setZone z r).fault = s.fault := rfl
@[simp] theorem setZone_windows : (s.setZone z r).windows = s.windows := rfl
@[simp] theorem setZone_capture : (s.setZone z r).capture = s.capture := rfl
@[simp] theorem setZone_routing : (s.setZone z r).routing = s.routing := rfl
@[simp] theorem setZone_notices : (s.setZone z r).notices = s.notices := rfl
@[simp] theorem setZone_counters : (s.setZone z r).counters = s.counters := rfl
@[simp] theorem setZone_pending : (s.setZone z r).pending = s.pending := rfl
end setZone

section setString
variable (n : StringNo) (r : StringRecord)
@[simp] theorem setString_resetAsserted : (s.setString n r).resetAsserted = s.resetAsserted := rfl
@[simp] theorem setString_lineRate : (s.setString n r).lineRate = s.lineRate := rfl
@[simp] theorem setString_ports : (s.setString n r).ports = s.ports := rfl
@[simp] theorem setString_mode : (s.setString n r).mode = s.mode := rfl
@[simp] theorem setString_served : (s.setString n r).served = s.served := rfl
@[simp] theorem setString_lamps : (s.setString n r).lamps = s.lamps := rfl
@[simp] theorem setString_zones : (s.setString n r).zones = s.zones := rfl
@[simp] theorem setString_horn : (s.setString n r).horn = s.horn := rfl
@[simp] theorem setString_links : (s.setString n r).links = s.links := rfl
@[simp] theorem setString_slot : (s.setString n r).slot = s.slot := rfl
@[simp] theorem setString_scan : (s.setString n r).scan = s.scan := rfl
@[simp] theorem setString_levels : (s.setString n r).levels = s.levels := rfl
@[simp] theorem setString_timing : (s.setString n r).timing = s.timing := rfl
@[simp] theorem setString_pendingTiming : (s.setString n r).pendingTiming = s.pendingTiming := rfl
@[simp] theorem setString_holdLimit : (s.setString n r).holdLimit = s.holdLimit := rfl
@[simp] theorem setString_testLimit : (s.setString n r).testLimit = s.testLimit := rfl
@[simp] theorem setString_slowPhase : (s.setString n r).slowPhase = s.slowPhase := rfl
@[simp] theorem setString_fastPhase : (s.setString n r).fastPhase = s.fastPhase := rfl
@[simp] theorem setString_frameCount : (s.setString n r).frameCount = s.frameCount := rfl
@[simp] theorem setString_snapshot : (s.setString n r).snapshot = s.snapshot := rfl
@[simp] theorem setString_hold : (s.setString n r).hold = s.hold := rfl
@[simp] theorem setString_session : (s.setString n r).session = s.session := rfl
@[simp] theorem setString_testInput : (s.setString n r).testInput = s.testInput := rfl
@[simp] theorem setString_nextFrame : (s.setString n r).nextFrame = s.nextFrame := rfl
@[simp] theorem setString_strings : (s.setString n r).strings = s.strings.set n.val r n.isLt := rfl
@[simp] theorem setString_progress : (s.setString n r).progress = s.progress := rfl
@[simp] theorem setString_drive : (s.setString n r).drive = s.drive := rfl
@[simp] theorem setString_latched : (s.setString n r).latched = s.latched := rfl
@[simp] theorem setString_failThreshold : (s.setString n r).failThreshold = s.failThreshold := rfl
@[simp] theorem setString_recoveryThreshold : (s.setString n r).recoveryThreshold = s.recoveryThreshold := rfl
@[simp] theorem setString_failures : (s.setString n r).failures = s.failures := rfl
@[simp] theorem setString_overflow : (s.setString n r).overflow = s.overflow := rfl
@[simp] theorem setString_fault : (s.setString n r).fault = s.fault := rfl
@[simp] theorem setString_windows : (s.setString n r).windows = s.windows := rfl
@[simp] theorem setString_capture : (s.setString n r).capture = s.capture := rfl
@[simp] theorem setString_routing : (s.setString n r).routing = s.routing := rfl
@[simp] theorem setString_notices : (s.setString n r).notices = s.notices := rfl
@[simp] theorem setString_counters : (s.setString n r).counters = s.counters := rfl
@[simp] theorem setString_pending : (s.setString n r).pending = s.pending := rfl
end setString

section setPort
variable (p : Port) (r : PortState)
@[simp] theorem setPort_resetAsserted : (s.setPort p r).resetAsserted = s.resetAsserted := rfl
@[simp] theorem setPort_lineRate : (s.setPort p r).lineRate = s.lineRate := rfl
@[simp] theorem setPort_ports : (s.setPort p r).ports = s.ports.set p r := rfl
@[simp] theorem setPort_mode : (s.setPort p r).mode = s.mode := rfl
@[simp] theorem setPort_served : (s.setPort p r).served = s.served := rfl
@[simp] theorem setPort_lamps : (s.setPort p r).lamps = s.lamps := rfl
@[simp] theorem setPort_zones : (s.setPort p r).zones = s.zones := rfl
@[simp] theorem setPort_horn : (s.setPort p r).horn = s.horn := rfl
@[simp] theorem setPort_links : (s.setPort p r).links = s.links := rfl
@[simp] theorem setPort_slot : (s.setPort p r).slot = s.slot := rfl
@[simp] theorem setPort_scan : (s.setPort p r).scan = s.scan := rfl
@[simp] theorem setPort_levels : (s.setPort p r).levels = s.levels := rfl
@[simp] theorem setPort_timing : (s.setPort p r).timing = s.timing := rfl
@[simp] theorem setPort_pendingTiming : (s.setPort p r).pendingTiming = s.pendingTiming := rfl
@[simp] theorem setPort_holdLimit : (s.setPort p r).holdLimit = s.holdLimit := rfl
@[simp] theorem setPort_testLimit : (s.setPort p r).testLimit = s.testLimit := rfl
@[simp] theorem setPort_slowPhase : (s.setPort p r).slowPhase = s.slowPhase := rfl
@[simp] theorem setPort_fastPhase : (s.setPort p r).fastPhase = s.fastPhase := rfl
@[simp] theorem setPort_frameCount : (s.setPort p r).frameCount = s.frameCount := rfl
@[simp] theorem setPort_snapshot : (s.setPort p r).snapshot = s.snapshot := rfl
@[simp] theorem setPort_hold : (s.setPort p r).hold = s.hold := rfl
@[simp] theorem setPort_session : (s.setPort p r).session = s.session := rfl
@[simp] theorem setPort_testInput : (s.setPort p r).testInput = s.testInput := rfl
@[simp] theorem setPort_nextFrame : (s.setPort p r).nextFrame = s.nextFrame := rfl
@[simp] theorem setPort_strings : (s.setPort p r).strings = s.strings := rfl
@[simp] theorem setPort_progress : (s.setPort p r).progress = s.progress := rfl
@[simp] theorem setPort_drive : (s.setPort p r).drive = s.drive := rfl
@[simp] theorem setPort_latched : (s.setPort p r).latched = s.latched := rfl
@[simp] theorem setPort_failThreshold : (s.setPort p r).failThreshold = s.failThreshold := rfl
@[simp] theorem setPort_recoveryThreshold : (s.setPort p r).recoveryThreshold = s.recoveryThreshold := rfl
@[simp] theorem setPort_failures : (s.setPort p r).failures = s.failures := rfl
@[simp] theorem setPort_overflow : (s.setPort p r).overflow = s.overflow := rfl
@[simp] theorem setPort_fault : (s.setPort p r).fault = s.fault := rfl
@[simp] theorem setPort_windows : (s.setPort p r).windows = s.windows := rfl
@[simp] theorem setPort_capture : (s.setPort p r).capture = s.capture := rfl
@[simp] theorem setPort_routing : (s.setPort p r).routing = s.routing := rfl
@[simp] theorem setPort_notices : (s.setPort p r).notices = s.notices := rfl
@[simp] theorem setPort_counters : (s.setPort p r).counters = s.counters := rfl
@[simp] theorem setPort_pending : (s.setPort p r).pending = s.pending := rfl
end setPort

section setLink
variable (p : Port) (r : LinkRecord)
@[simp] theorem setLink_resetAsserted : (s.setLink p r).resetAsserted = s.resetAsserted := rfl
@[simp] theorem setLink_lineRate : (s.setLink p r).lineRate = s.lineRate := rfl
@[simp] theorem setLink_ports : (s.setLink p r).ports = s.ports := rfl
@[simp] theorem setLink_mode : (s.setLink p r).mode = s.mode := rfl
@[simp] theorem setLink_served : (s.setLink p r).served = s.served := rfl
@[simp] theorem setLink_lamps : (s.setLink p r).lamps = s.lamps := rfl
@[simp] theorem setLink_zones : (s.setLink p r).zones = s.zones := rfl
@[simp] theorem setLink_horn : (s.setLink p r).horn = s.horn := rfl
@[simp] theorem setLink_links : (s.setLink p r).links = s.links.set p r := rfl
@[simp] theorem setLink_slot : (s.setLink p r).slot = s.slot := rfl
@[simp] theorem setLink_scan : (s.setLink p r).scan = s.scan := rfl
@[simp] theorem setLink_levels : (s.setLink p r).levels = s.levels := rfl
@[simp] theorem setLink_timing : (s.setLink p r).timing = s.timing := rfl
@[simp] theorem setLink_pendingTiming : (s.setLink p r).pendingTiming = s.pendingTiming := rfl
@[simp] theorem setLink_holdLimit : (s.setLink p r).holdLimit = s.holdLimit := rfl
@[simp] theorem setLink_testLimit : (s.setLink p r).testLimit = s.testLimit := rfl
@[simp] theorem setLink_slowPhase : (s.setLink p r).slowPhase = s.slowPhase := rfl
@[simp] theorem setLink_fastPhase : (s.setLink p r).fastPhase = s.fastPhase := rfl
@[simp] theorem setLink_frameCount : (s.setLink p r).frameCount = s.frameCount := rfl
@[simp] theorem setLink_snapshot : (s.setLink p r).snapshot = s.snapshot := rfl
@[simp] theorem setLink_hold : (s.setLink p r).hold = s.hold := rfl
@[simp] theorem setLink_session : (s.setLink p r).session = s.session := rfl
@[simp] theorem setLink_testInput : (s.setLink p r).testInput = s.testInput := rfl
@[simp] theorem setLink_nextFrame : (s.setLink p r).nextFrame = s.nextFrame := rfl
@[simp] theorem setLink_strings : (s.setLink p r).strings = s.strings := rfl
@[simp] theorem setLink_progress : (s.setLink p r).progress = s.progress := rfl
@[simp] theorem setLink_drive : (s.setLink p r).drive = s.drive := rfl
@[simp] theorem setLink_latched : (s.setLink p r).latched = s.latched := rfl
@[simp] theorem setLink_failThreshold : (s.setLink p r).failThreshold = s.failThreshold := rfl
@[simp] theorem setLink_recoveryThreshold : (s.setLink p r).recoveryThreshold = s.recoveryThreshold := rfl
@[simp] theorem setLink_failures : (s.setLink p r).failures = s.failures := rfl
@[simp] theorem setLink_overflow : (s.setLink p r).overflow = s.overflow := rfl
@[simp] theorem setLink_fault : (s.setLink p r).fault = s.fault := rfl
@[simp] theorem setLink_windows : (s.setLink p r).windows = s.windows := rfl
@[simp] theorem setLink_capture : (s.setLink p r).capture = s.capture := rfl
@[simp] theorem setLink_routing : (s.setLink p r).routing = s.routing := rfl
@[simp] theorem setLink_notices : (s.setLink p r).notices = s.notices := rfl
@[simp] theorem setLink_counters : (s.setLink p r).counters = s.counters := rfl
@[simp] theorem setLink_pending : (s.setLink p r).pending = s.pending := rfl
end setLink

section addReply
variable (p : Port) (r : Reply)
@[simp] theorem addReply_resetAsserted : (s.addReply p r).resetAsserted = s.resetAsserted := rfl
@[simp] theorem addReply_lineRate : (s.addReply p r).lineRate = s.lineRate := rfl
@[simp] theorem addReply_ports : (s.addReply p r).ports = s.ports.set p { s.ports.get p with replies := (s.ports.get p).replies ++ [r] } := rfl
@[simp] theorem addReply_mode : (s.addReply p r).mode = s.mode := rfl
@[simp] theorem addReply_served : (s.addReply p r).served = s.served := rfl
@[simp] theorem addReply_lamps : (s.addReply p r).lamps = s.lamps := rfl
@[simp] theorem addReply_zones : (s.addReply p r).zones = s.zones := rfl
@[simp] theorem addReply_horn : (s.addReply p r).horn = s.horn := rfl
@[simp] theorem addReply_links : (s.addReply p r).links = s.links := rfl
@[simp] theorem addReply_slot : (s.addReply p r).slot = s.slot := rfl
@[simp] theorem addReply_scan : (s.addReply p r).scan = s.scan := rfl
@[simp] theorem addReply_levels : (s.addReply p r).levels = s.levels := rfl
@[simp] theorem addReply_timing : (s.addReply p r).timing = s.timing := rfl
@[simp] theorem addReply_pendingTiming : (s.addReply p r).pendingTiming = s.pendingTiming := rfl
@[simp] theorem addReply_holdLimit : (s.addReply p r).holdLimit = s.holdLimit := rfl
@[simp] theorem addReply_testLimit : (s.addReply p r).testLimit = s.testLimit := rfl
@[simp] theorem addReply_slowPhase : (s.addReply p r).slowPhase = s.slowPhase := rfl
@[simp] theorem addReply_fastPhase : (s.addReply p r).fastPhase = s.fastPhase := rfl
@[simp] theorem addReply_frameCount : (s.addReply p r).frameCount = s.frameCount := rfl
@[simp] theorem addReply_snapshot : (s.addReply p r).snapshot = s.snapshot := rfl
@[simp] theorem addReply_hold : (s.addReply p r).hold = s.hold := rfl
@[simp] theorem addReply_session : (s.addReply p r).session = s.session := rfl
@[simp] theorem addReply_testInput : (s.addReply p r).testInput = s.testInput := rfl
@[simp] theorem addReply_nextFrame : (s.addReply p r).nextFrame = s.nextFrame := rfl
@[simp] theorem addReply_strings : (s.addReply p r).strings = s.strings := rfl
@[simp] theorem addReply_progress : (s.addReply p r).progress = s.progress := rfl
@[simp] theorem addReply_drive : (s.addReply p r).drive = s.drive := rfl
@[simp] theorem addReply_latched : (s.addReply p r).latched = s.latched := rfl
@[simp] theorem addReply_failThreshold : (s.addReply p r).failThreshold = s.failThreshold := rfl
@[simp] theorem addReply_recoveryThreshold : (s.addReply p r).recoveryThreshold = s.recoveryThreshold := rfl
@[simp] theorem addReply_failures : (s.addReply p r).failures = s.failures := rfl
@[simp] theorem addReply_overflow : (s.addReply p r).overflow = s.overflow := rfl
@[simp] theorem addReply_fault : (s.addReply p r).fault = s.fault := rfl
@[simp] theorem addReply_windows : (s.addReply p r).windows = s.windows := rfl
@[simp] theorem addReply_capture : (s.addReply p r).capture = s.capture := rfl
@[simp] theorem addReply_routing : (s.addReply p r).routing = s.routing := rfl
@[simp] theorem addReply_notices : (s.addReply p r).notices = s.notices := rfl
@[simp] theorem addReply_counters : (s.addReply p r).counters = s.counters := rfl
@[simp] theorem addReply_pending : (s.addReply p r).pending = s.pending := rfl
end addReply

section takeHead
variable (p : Port)
@[simp] theorem takeHead_resetAsserted : (s.takeHead p).resetAsserted = s.resetAsserted := rfl
@[simp] theorem takeHead_lineRate : (s.takeHead p).lineRate = s.lineRate := rfl
@[simp] theorem takeHead_ports : (s.takeHead p).ports = s.ports.set p { s.ports.get p with commands := (s.ports.get p).commands.tail } := rfl
@[simp] theorem takeHead_mode : (s.takeHead p).mode = s.mode := rfl
@[simp] theorem takeHead_served : (s.takeHead p).served = s.served.filter (· ≠ p) ++ [p] := rfl
@[simp] theorem takeHead_lamps : (s.takeHead p).lamps = s.lamps := rfl
@[simp] theorem takeHead_zones : (s.takeHead p).zones = s.zones := rfl
@[simp] theorem takeHead_horn : (s.takeHead p).horn = s.horn := rfl
@[simp] theorem takeHead_links : (s.takeHead p).links = s.links := rfl
@[simp] theorem takeHead_slot : (s.takeHead p).slot = s.slot := rfl
@[simp] theorem takeHead_scan : (s.takeHead p).scan = s.scan := rfl
@[simp] theorem takeHead_levels : (s.takeHead p).levels = s.levels := rfl
@[simp] theorem takeHead_timing : (s.takeHead p).timing = s.timing := rfl
@[simp] theorem takeHead_pendingTiming : (s.takeHead p).pendingTiming = s.pendingTiming := rfl
@[simp] theorem takeHead_holdLimit : (s.takeHead p).holdLimit = s.holdLimit := rfl
@[simp] theorem takeHead_testLimit : (s.takeHead p).testLimit = s.testLimit := rfl
@[simp] theorem takeHead_slowPhase : (s.takeHead p).slowPhase = s.slowPhase := rfl
@[simp] theorem takeHead_fastPhase : (s.takeHead p).fastPhase = s.fastPhase := rfl
@[simp] theorem takeHead_frameCount : (s.takeHead p).frameCount = s.frameCount := rfl
@[simp] theorem takeHead_snapshot : (s.takeHead p).snapshot = s.snapshot := rfl
@[simp] theorem takeHead_hold : (s.takeHead p).hold = s.hold := rfl
@[simp] theorem takeHead_session : (s.takeHead p).session = s.session := rfl
@[simp] theorem takeHead_testInput : (s.takeHead p).testInput = s.testInput := rfl
@[simp] theorem takeHead_nextFrame : (s.takeHead p).nextFrame = s.nextFrame := rfl
@[simp] theorem takeHead_strings : (s.takeHead p).strings = s.strings := rfl
@[simp] theorem takeHead_progress : (s.takeHead p).progress = s.progress := rfl
@[simp] theorem takeHead_drive : (s.takeHead p).drive = s.drive := rfl
@[simp] theorem takeHead_latched : (s.takeHead p).latched = s.latched := rfl
@[simp] theorem takeHead_failThreshold : (s.takeHead p).failThreshold = s.failThreshold := rfl
@[simp] theorem takeHead_recoveryThreshold : (s.takeHead p).recoveryThreshold = s.recoveryThreshold := rfl
@[simp] theorem takeHead_failures : (s.takeHead p).failures = s.failures := rfl
@[simp] theorem takeHead_overflow : (s.takeHead p).overflow = s.overflow := rfl
@[simp] theorem takeHead_fault : (s.takeHead p).fault = s.fault := rfl
@[simp] theorem takeHead_windows : (s.takeHead p).windows = s.windows := rfl
@[simp] theorem takeHead_capture : (s.takeHead p).capture = s.capture := rfl
@[simp] theorem takeHead_routing : (s.takeHead p).routing = s.routing := rfl
@[simp] theorem takeHead_notices : (s.takeHead p).notices = s.notices := rfl
@[simp] theorem takeHead_counters : (s.takeHead p).counters = s.counters := rfl
@[simp] theorem takeHead_pending : (s.takeHead p).pending = s.pending := rfl
end takeHead

section raise
variable (k : NoticeKind)
@[simp] theorem raise_resetAsserted : (s.raise k).resetAsserted = s.resetAsserted := rfl
@[simp] theorem raise_lineRate : (s.raise k).lineRate = s.lineRate := rfl
@[simp] theorem raise_ports : (s.raise k).ports = s.ports := rfl
@[simp] theorem raise_mode : (s.raise k).mode = s.mode := rfl
@[simp] theorem raise_served : (s.raise k).served = s.served := rfl
@[simp] theorem raise_lamps : (s.raise k).lamps = s.lamps := rfl
@[simp] theorem raise_zones : (s.raise k).zones = s.zones := rfl
@[simp] theorem raise_horn : (s.raise k).horn = s.horn := rfl
@[simp] theorem raise_links : (s.raise k).links = s.links := rfl
@[simp] theorem raise_slot : (s.raise k).slot = s.slot := rfl
@[simp] theorem raise_scan : (s.raise k).scan = s.scan := rfl
@[simp] theorem raise_levels : (s.raise k).levels = s.levels := rfl
@[simp] theorem raise_timing : (s.raise k).timing = s.timing := rfl
@[simp] theorem raise_pendingTiming : (s.raise k).pendingTiming = s.pendingTiming := rfl
@[simp] theorem raise_holdLimit : (s.raise k).holdLimit = s.holdLimit := rfl
@[simp] theorem raise_testLimit : (s.raise k).testLimit = s.testLimit := rfl
@[simp] theorem raise_slowPhase : (s.raise k).slowPhase = s.slowPhase := rfl
@[simp] theorem raise_fastPhase : (s.raise k).fastPhase = s.fastPhase := rfl
@[simp] theorem raise_frameCount : (s.raise k).frameCount = s.frameCount := rfl
@[simp] theorem raise_snapshot : (s.raise k).snapshot = s.snapshot := rfl
@[simp] theorem raise_hold : (s.raise k).hold = s.hold := rfl
@[simp] theorem raise_session : (s.raise k).session = s.session := rfl
@[simp] theorem raise_testInput : (s.raise k).testInput = s.testInput := rfl
@[simp] theorem raise_nextFrame : (s.raise k).nextFrame = s.nextFrame := rfl
@[simp] theorem raise_strings : (s.raise k).strings = s.strings := rfl
@[simp] theorem raise_progress : (s.raise k).progress = s.progress := rfl
@[simp] theorem raise_drive : (s.raise k).drive = s.drive := rfl
@[simp] theorem raise_latched : (s.raise k).latched = s.latched := rfl
@[simp] theorem raise_failThreshold : (s.raise k).failThreshold = s.failThreshold := rfl
@[simp] theorem raise_recoveryThreshold : (s.raise k).recoveryThreshold = s.recoveryThreshold := rfl
@[simp] theorem raise_failures : (s.raise k).failures = s.failures := rfl
@[simp] theorem raise_overflow : (s.raise k).overflow = s.overflow := rfl
@[simp] theorem raise_fault : (s.raise k).fault = s.fault := rfl
@[simp] theorem raise_windows : (s.raise k).windows = s.windows := rfl
@[simp] theorem raise_capture : (s.raise k).capture = s.capture := rfl
@[simp] theorem raise_routing : (s.raise k).routing = s.routing := rfl
@[simp] theorem raise_counters : (s.raise k).counters = s.counters := rfl
@[simp] theorem raise_pending : (s.raise k).pending = s.pending := rfl
end raise

section report
variable (e : CounterEvent) (p : Option Port) (z : Option ZoneNo)
@[simp] theorem report_resetAsserted : (s.report e p z).resetAsserted = s.resetAsserted := rfl
@[simp] theorem report_lineRate : (s.report e p z).lineRate = s.lineRate := rfl
@[simp] theorem report_ports : (s.report e p z).ports = s.ports := rfl
@[simp] theorem report_mode : (s.report e p z).mode = s.mode := rfl
@[simp] theorem report_served : (s.report e p z).served = s.served := rfl
@[simp] theorem report_lamps : (s.report e p z).lamps = s.lamps := rfl
@[simp] theorem report_zones : (s.report e p z).zones = s.zones := rfl
@[simp] theorem report_horn : (s.report e p z).horn = s.horn := rfl
@[simp] theorem report_links : (s.report e p z).links = s.links := rfl
@[simp] theorem report_slot : (s.report e p z).slot = s.slot := rfl
@[simp] theorem report_scan : (s.report e p z).scan = s.scan := rfl
@[simp] theorem report_levels : (s.report e p z).levels = s.levels := rfl
@[simp] theorem report_timing : (s.report e p z).timing = s.timing := rfl
@[simp] theorem report_pendingTiming : (s.report e p z).pendingTiming = s.pendingTiming := rfl
@[simp] theorem report_holdLimit : (s.report e p z).holdLimit = s.holdLimit := rfl
@[simp] theorem report_testLimit : (s.report e p z).testLimit = s.testLimit := rfl
@[simp] theorem report_slowPhase : (s.report e p z).slowPhase = s.slowPhase := rfl
@[simp] theorem report_fastPhase : (s.report e p z).fastPhase = s.fastPhase := rfl
@[simp] theorem report_frameCount : (s.report e p z).frameCount = s.frameCount := rfl
@[simp] theorem report_snapshot : (s.report e p z).snapshot = s.snapshot := rfl
@[simp] theorem report_hold : (s.report e p z).hold = s.hold := rfl
@[simp] theorem report_session : (s.report e p z).session = s.session := rfl
@[simp] theorem report_testInput : (s.report e p z).testInput = s.testInput := rfl
@[simp] theorem report_nextFrame : (s.report e p z).nextFrame = s.nextFrame := rfl
@[simp] theorem report_strings : (s.report e p z).strings = s.strings := rfl
@[simp] theorem report_progress : (s.report e p z).progress = s.progress := rfl
@[simp] theorem report_drive : (s.report e p z).drive = s.drive := rfl
@[simp] theorem report_latched : (s.report e p z).latched = s.latched := rfl
@[simp] theorem report_failThreshold : (s.report e p z).failThreshold = s.failThreshold := rfl
@[simp] theorem report_recoveryThreshold : (s.report e p z).recoveryThreshold = s.recoveryThreshold := rfl
@[simp] theorem report_failures : (s.report e p z).failures = s.failures := rfl
@[simp] theorem report_overflow : (s.report e p z).overflow = s.overflow := rfl
@[simp] theorem report_fault : (s.report e p z).fault = s.fault := rfl
@[simp] theorem report_windows : (s.report e p z).windows = s.windows := rfl
@[simp] theorem report_capture : (s.report e p z).capture = s.capture := rfl
@[simp] theorem report_routing : (s.report e p z).routing = s.routing := rfl
@[simp] theorem report_notices : (s.report e p z).notices = s.notices := rfl
@[simp] theorem report_pending : (s.report e p z).pending = s.pending := rfl
end report

end Sys2Proof.Machine.State
end

