-- ==== Sys2Proof/Laws/Ops.lean ====
section
/-! SUPPORT. One lemma per shared operation: all that it can change, as a record update of the state it is given, and what
it puts there. -/

namespace Sys2Proof.Machine

/-! ### Signals -/

theorem State.raise_frame (s : State) (k : NoticeKind) : s.raise k = { s with notices := (s.raise k).notices } := rfl

theorem State.report_frame (s : State) (e : CounterEvent) (p : Option Port) (z : Option ZoneNo) :
    s.report e p z = { s with counters := (s.report e p z).counters } := rfl

/-- A raise adds the kind to the pending sets of the ports it is routed to, and touches no other kind. -/
theorem State.raise_get (s : State) (k j : NoticeKind) (p : Port) :
    ((s.raise k).notices.get p)[j.index] =
      ((s.notices.get p)[j.index] || (decide (j = k) && (s.routing[k.index]).get p)) := by
  have inj : k.index.val = j.index.val ↔ j = k := by cases k <;> cases j <;> simp [NoticeKind.index]
  simp only [raise, PerPort.get_map, Fin.getElem_fin]
  by_cases hr : (s.routing[k.index.val]).get p = true
  case neg => simp [hr]
  case pos =>
    simp only [hr, if_true]
    by_cases hj : j = k
    · subst hj; simp
    · have : k.index.val ≠ j.index.val := fun h => hj (inj.1 h)
      simp [this, hj]

/-- A report adds one to the counters that count the event, and touches no other. -/
theorem State.report_get (s : State) (e : CounterEvent) (p : Option Port) (z : Option ZoneNo) (j : Nat) (h : j < 4) :
    (s.report e p z).counters[j] = if s.counters[j].counts e p z then s.counters[j].bump else s.counters[j] := by
  simp [report]

theorem State.reportFault_frame (s : State) (k : FaultKind) (place : FaultPlace) :
    s.reportFault k place =
      { s with fault := (s.reportFault k place).fault, notices := (s.reportFault k place).notices } := by
  unfold reportFault
  split
  · rfl
  · split <;> rfl

theorem State.setHorn_frame (s : State) (h : Horn) :
    s.setHorn h = { s with horn := h, notices := (s.setHorn h).notices } := by
  unfold setHorn
  split
  · subst h; rfl
  · rfl

theorem State.settleHorn_frame (s : State) (entered : Bool) :
    s.settleHorn entered =
      { s with horn := (s.settleHorn entered).horn, notices := (s.settleHorn entered).notices } := by
  unfold settleHorn
  split
  · rw [setHorn_frame]
  · split
    · rw [setHorn_frame]
    · rfl

/-- The horn after an application (R74). -/
theorem State.settleHorn_horn (s : State) (entered : Bool) :
    (s.settleHorn entered).horn =
      if entered then .sounding else if s.soundNew then s.horn else .quiet := by
  unfold settleHorn
  split
  · rw [setHorn_frame]
  · split
    · rename_i h
      rw [setHorn_frame]; simp [h.2]
    · rename_i h
      cases hs : s.soundNew <;> cases hh : s.horn <;> simp_all

/-! ### Lamp records -/

theorem State.countChange_frame (s : State) (i : Lamp) (was now : AlarmState) :
    s.countChange i was now = { s with zones := (s.countChange i was now).zones } := by
  unfold countChange
  split <;> rfl

theorem State.setAlarm_frame (s : State) (i : Lamp) (a : AlarmState) :
    s.setAlarm i a = { s with
      lamps := s.lamps.set i.val { s.lamps[i] with alarm := a } i.isLt
      zones := (s.countChange i s.lamps[i].alarm a).zones } := by
  unfold setAlarm
  rw [countChange_frame]
  rfl

theorem State.land_frame (s : State) (upsets : List Upset) :
    s.land upsets = { s with lamps := (s.land upsets).lamps } := by
  unfold land
  induction upsets generalizing s with
  | nil => rfl
  | cons u us ih => rw [List.foldl_cons, ih]; rfl

/-- A checking read changes at most the record, the zone counts, the horn, the fault record and the pending sets. -/
theorem State.checkLamp_frame (s : State) (i : Lamp) :
    s.checkLamp i = { s with
      lamps := (s.checkLamp i).lamps, zones := (s.checkLamp i).zones, horn := (s.checkLamp i).horn,
      fault := (s.checkLamp i).fault, notices := (s.checkLamp i).notices } := by
  unfold checkLamp
  split
  · rfl
  · rw [reportFault_frame]; rfl
  · rw [reportFault_frame, settleHorn_frame, countChange_frame]; rfl

/-- A checking read of a record that agrees with its check code changes nothing. -/
theorem State.checkLamp_clean {s : State} {i : Lamp} (h : s.lamps[i].integrity = .clean) : s.checkLamp i = s := by
  unfold checkLamp
  rw [h]

theorem State.checkLamps_frame (s : State) (lamps : List Lamp) :
    s.checkLamps lamps = { s with
      lamps := (s.checkLamps lamps).lamps, zones := (s.checkLamps lamps).zones, horn := (s.checkLamps lamps).horn,
      fault := (s.checkLamps lamps).fault, notices := (s.checkLamps lamps).notices } := by
  unfold checkLamps
  induction lamps generalizing s with
  | nil => rfl
  | cons i is ih => rw [List.foldl_cons, ih, checkLamp_frame]

/-- Checking reads of records that all agree with their check codes change nothing. -/
theorem State.checkLamps_clean (s : State) (lamps : List Lamp) (h : ∀ i ∈ lamps, s.lamps[i].integrity = .clean) :
    s.checkLamps lamps = s := by
  unfold checkLamps
  induction lamps with
  | nil => rfl
  | cons i is ih =>
    rw [List.foldl_cons, checkLamp_clean (h i (by simp))]
    exact ih fun k hk => h k (by simp [hk])

/-! ### The failure list -/

theorem State.declare_frame (s : State) (i : Lamp) (k : FailureKind) :
    s.declare i k = { s with
      failures := (s.declare i k).failures, overflow := (s.declare i k).overflow,
      notices := (s.declare i k).notices } := by
  unfold declare
  split
  · rfl
  · split <;> rfl

theorem State.becameGood_frame (s : State) (i : Lamp) :
    s.becameGood i = { s with failures := (s.becameGood i).failures } := rfl

theorem State.dropFailure_frame (s : State) (i : Lamp) :
    s.dropFailure i = { s with failures := (s.dropFailure i).failures } := rfl

/-! ### The executor -/

theorem State.conclude_frame (s : State) (p : Port) (c : Command) (z : Option ZoneNo) (a : Answer) :
    s.conclude p c z a =
      { s with ports := (s.conclude p c z a).ports, counters := (s.conclude p c z a).counters } := rfl

/-- A taking that is not the executor's next does not happen. -/
theorem State.executes_not_taken {α : Type} {s : State} {p : Port} {c : Command} (upsets : List Upset)
    (parse : List Byte → Option α) (zone : State → α → Option ZoneNo) (judge : State → α → State × Answer)
    (h : s.takes p c = false) : s.executes p c upsets parse zone judge = s := by
  simp [executes, h]

/-- A taking of a command whose payload has the wrong length. -/
theorem State.executes_length {α : Type} {s : State} {p : Port} {c : Command} (upsets : List Upset)
    {parse : List Byte → Option α} (zone : State → α → Option ZoneNo) (judge : State → α → State × Answer)
    (h : s.takes p c = true) (hp : parse c.payload = none) :
    s.executes p c upsets parse zone judge = ((s.land upsets).takeHead p).conclude p c none ⟨.length, []⟩ := by
  simp [executes, h, hp]

/-- A taking of a command whose payload can be read. -/
theorem State.executes_judged {α : Type} {s : State} {p : Port} {c : Command} (upsets : List Upset)
    {parse : List Byte → Option α} (zone : State → α → Option ZoneNo) (judge : State → α → State × Answer) {a : α}
    (h : s.takes p c = true) (hp : parse c.payload = some a) :
    s.executes p c upsets parse zone judge =
      (judge ((s.land upsets).takeHead p) a).1.conclude p c (zone ((s.land upsets).takeHead p) a)
        (judge ((s.land upsets).takeHead p) a).2 := by
  simp [executes, h, hp]

@[simp] theorem State.land_nil (s : State) : s.land [] = s := rfl

@[simp] theorem State.unless_none (s : State) (x : State × Answer) : s.unless none x = x := rfl

@[simp] theorem State.unless_some (s : State) (a : Answer) (x : State × Answer) : s.unless (some a) x = (s, a) := rfl

theorem State.recordHit_frame (s : State) (h : Hit) :
    s.recordHit h = { s with
      capture := (s.recordHit h).capture, notices := (s.recordHit h).notices, counters := (s.recordHit h).counters } := by
  unfold recordHit
  split <;> rfl

/-- A command that matches no window is applied as if no window existed (R143). -/
theorem State.watched_unmatched {s : State} {p : Port} {k : WatchKind} {low high : Nat} (code scope : Byte)
    (apply : State × Answer) (h : s.matches p k low high = []) : s.watched p code scope k low high apply = apply := by
  simp [watched, h]

/-! ### Links, strings -/

theorem State.lapseZone_frame (p : Port) (s : State) (z : ZoneNo) :
    State.lapseZone p s z = { s with
      zones := (State.lapseZone p s z).zones, notices := (State.lapseZone p s z).notices,
      counters := (State.lapseZone p s z).counters } := by
  unfold lapseZone
  split <;> rfl

theorem State.lapse_frame (s : State) (p : Port) :
    s.lapse p = { s with
      zones := (s.lapse p).zones, hold := (s.lapse p).hold, slot := (s.lapse p).slot,
      notices := (s.lapse p).notices, counters := (s.lapse p).counters } := by
  have zones : ∀ (l : List ZoneNo) (s : State), ∃ zones notices counters, l.foldl (State.lapseZone p) s =
      { s with zones := zones, notices := notices, counters := counters } := by
    intro l
    induction l with
    | nil => intro s; exact ⟨_, _, _, rfl⟩
    | cons z zs ih =>
      intro s
      obtain ⟨_, _, _, h⟩ := ih (State.lapseZone p s z)
      exact ⟨_, _, _, by rw [List.foldl_cons, h, lapseZone_frame]⟩
  obtain ⟨_, _, _, h⟩ := zones (List.finRange 64) s
  unfold lapse lapseSlot lapseHold
  rw [h]
  split <;> split <;> rfl

/-- A removal changes what a checking read can, and the failure list. -/
theorem State.removeLamp_frame (s : State) (i : Lamp) :
    s.removeLamp i = { s with
      lamps := (s.removeLamp i).lamps, zones := (s.removeLamp i).zones, horn := (s.removeLamp i).horn,
      fault := (s.removeLamp i).fault, notices := (s.removeLamp i).notices,
      failures := (s.removeLamp i).failures } := by
  unfold removeLamp
  simp only []
  rw [dropFailure_frame, checkLamp_frame]
  rfl

/-- Putting a module count in force changes what removals can, and the string's record. -/
theorem State.putInForce_frame (s : State) (n : StringNo) (count : Nat) :
    s.putInForce n count = { s with
      lamps := (s.putInForce n count).lamps, zones := (s.putInForce n count).zones,
      horn := (s.putInForce n count).horn, fault := (s.putInForce n count).fault,
      notices := (s.putInForce n count).notices, failures := (s.putInForce n count).failures,
      strings := s.strings.set n.val (s.strings[n].withCount count) n.isLt } := by
  have removals : ∀ (l : List Lamp) (s : State), ∃ lamps zones horn fault notices failures,
      l.foldl State.removeLamp s = { s with
        lamps := lamps, zones := zones, horn := horn, fault := fault, notices := notices, failures := failures } := by
    intro l
    induction l with
    | nil => intro s; exact ⟨_, _, _, _, _, _, rfl⟩
    | cons i is ih =>
      intro s
      obtain ⟨_, _, _, _, _, _, h⟩ := ih (s.removeLamp i)
      exact ⟨_, _, _, _, _, _, by rw [List.foldl_cons, h, removeLamp_frame]⟩
  unfold putInForce
  obtain ⟨_, _, _, _, _, _, h⟩ := removals
    (lampsFrom (256 * n.val + 8 * count) (8 * (s.strings[n].count - count))) (s.setString n (s.strings[n].withCount count))
  simp only []
  rw [h]
  rfl

/-- A removal takes the lamp's entry from the failure list, and no other. -/
theorem State.removeLamp_failures (s : State) (i : Lamp) :
    (s.removeLamp i).failures = s.failures.filter fun e => e.lamp ≠ i := by
  unfold removeLamp
  simp only []
  rw [dropFailure_frame, checkLamp_frame]
  rfl

/-- Pending module counts put in force change what single ones can. -/
theorem State.forcePending_frame (s : State) :
    s.forcePending = { s with
      lamps := s.forcePending.lamps, zones := s.forcePending.zones, horn := s.forcePending.horn,
      fault := s.forcePending.fault, notices := s.forcePending.notices, failures := s.forcePending.failures,
      strings := s.forcePending.strings } := by
  have counts : ∀ (l : List StringNo) (s : State), ∃ lamps zones horn fault notices failures strings,
      l.foldl (fun (s : State) n => match s.strings[n].pending with
        | none => s
        | some count => s.putInForce n count) s = { s with
          lamps := lamps, zones := zones, horn := horn, fault := fault, notices := notices, failures := failures,
          strings := strings } := by
    intro l
    induction l with
    | nil => intro s; exact ⟨_, _, _, _, _, _, _, rfl⟩
    | cons n ns ih =>
      intro s
      rw [List.foldl_cons]
      split
      · exact ih s
      · obtain ⟨_, _, _, _, _, _, _, h⟩ := ih (s.putInForce n _)
        exact ⟨_, _, _, _, _, _, _, by rw [h, putInForce_frame]⟩
  obtain ⟨_, _, _, _, _, _, _, h⟩ := counts (List.finRange 16) s
  have taken : s.forcePending = _ := h
  rw [taken]

/-! ### One step -/

theorem step_idle {s : State} (h : s.pending = []) : step s = .next s := by
  simp [step, h]

theorem step_front {s : State} {c : Instr} {rest : List Instr} (h : s.pending = c :: rest) :
    step s = exec c { s with pending := rest } := by
  simp [step, h]

end Sys2Proof.Machine
end

