-- ==== Sys2Proof/WellFormed.lean ====
section
/-! DEFINITION. Which terms stand for events of the part. The meanings are total: they do not ask for this. -/

namespace Sys2Proof

/-- A payload that a command frame can carry (R151). -/
def payloadOk (payload : List Byte) : Bool := payload.length ≤ Config.maxPayload

/-- At most one record of what was sensed for each lamp of a string (R1, R108). -/
def sensedOk (sensed : List Sensed) : Bool := sensed.length ≤ 256

/-- Whether a term stands for an event: its payload fits a frame, an unknown code is not in the code table, and a string
answers for no more lamps than it can have. -/
def Instr.wellFormed : Instr → Bool
  | .validFrameArrival _ _ _ payload => payloadOk payload
  | .unknownCommand _ _ code payload => payloadOk payload && code ∉ Machine.knownCodes
  | .stringFrameEnd _ _ sensed _ => sensedOk sensed
  | .writeAspects _ _ payload _ | .setAttributes _ _ payload _ | .forceLamp _ _ payload _ | .unforce _ _ payload _
  | .readLamps _ _ payload _ | .raiseAlarm _ _ payload _ | .clearAlarm _ _ payload _ | .acknowledge _ _ payload _
  | .startScan _ _ payload _ | .setString _ _ payload _ => payloadOk payload
  | .defineZone _ _ payload | .disableZone _ _ payload | .claimZone _ _ payload | .releaseZone _ _ payload
  | .markCurrent _ _ payload | .readZone _ _ payload | .present _ _ payload | .setTimeout _ _ payload
  | .setAllowance _ _ payload | .readLink _ _ payload | .postHandover _ _ payload | .takeHandover _ _ payload
  | .silenceHorn _ _ payload | .stopScan _ _ payload | .setLevels _ _ payload | .setTiming _ _ payload
  | .holdBoard _ _ payload | .releaseHold _ _ payload | .lampTestStart _ _ payload | .lampTestStop _ _ payload
  | .setSupervision _ _ payload | .readStrings _ _ payload | .takeFailures _ _ payload | .readFault _ _ payload
  | .releaseFault _ _ payload | .setFaultMask _ _ payload | .setWindow _ _ payload | .readWatch _ _ payload
  | .releaseWatch _ _ payload | .setArbitration _ _ payload | .setRouting _ _ payload | .takeNotices _ _ payload
  | .setCounter _ _ payload | .readCounters _ _ payload => payloadOk payload
  | .powerUpReset .. | .frameDiscard .. | .gapTimerExpiry _ | .portReset _ | .transmitReply _ | .replySent _
  | .silenceTimerExpiry _ | .holdLimitExpiry | .lampTestInputAssertion | .lampTestInputRelease
  | .lampTestLimitExpiry | .frameStart _ | .subFrame | .frameEnd | .byteTaken .. | .resetPinAsserted
  | .lineReturnedToMark _ => true

end Sys2Proof
end

