-- ==== Sys2Proof/Tests/Slice0.lean ====
section
/-! SUPPORT. Tests of single events, with results taken from the manual's tables and rules, and for every statement with
hypotheses a witness: a concrete state and operands that meet them. -/

open Sys2Proof Sys2Proof.Machine

namespace Sys2Proof.Tests

/-! ### Small states -/

/-- The state with one command waiting at one port, and that port the arbiter's choice. -/
def offer (s : State) (p : Port) (code : Byte) (payload : List Byte) : State :=
  { s with ports := (PerPort.all PortState.reset).set p { PortState.reset with commands := [⟨7, code, payload⟩] } }

/-- All three links LIVE. -/
def live : State := { State.reset with links := .all ⟨.live, some 50, 50, 0, false⟩ }

/-- A lamp that can be in alarm and sounds the horn. -/
def alarmLamp (a : AlarmState) : LampRecord :=
  { LampRecord.reset with alarm := a, attrs := ⟨true, .sound, 0, true⟩ }

/-- Zone 0 over lamps 0 to 7, owned by T1, current, of treatment DIM; lamps 0 to 3 alarm-capable, lamp 1 in NEW. -/
def zoned : State :=
  ((((live.setZone 0 ⟨true, 0, 8, some .t1, false, .dim, none, 1, 0⟩).setLamp 0 (alarmLamp .normal)).setLamp 1
    (alarmLamp .new)).setLamp 2 (alarmLamp .normal)).setLamp 3 (alarmLamp .normal)

/-- A RUNNING board between two frames, one module on string 0. -/
def running : State :=
  { live.setString 0 ⟨1, none, .intact, 1⟩ with scan := .running, progress := .answering [], nextFrame := some 10 }

/-- A BLOCK window over lamps 4 to 7 for aspects written by T1. -/
def blocking : State :=
  { live with
    windows := live.windows.set 3 ⟨4, 7, ⟨true, false, false⟩, ⟨true, false, false, false, false⟩, .block⟩ }

/-- The state an outcome goes to. -/
def next (o : Host.Outcome State Fault Refusal) : State :=
  match o with
  | .next t => t
  | .fault _ | .refused _ => State.reset

/-- STATUS and payload of the newest reply at a port. -/
def said (p : Port) (t : State) : Option (Status × List Byte) :=
  (t.ports.get p).replies.getLast?.map fun r => (r.status, r.payload)

/-! ### Well-formed terms: each check refuses an ill-formed one -/

theorem test_long_payload_is_ill_formed : (Instr.present .d 0 (List.replicate 73 0)).wellFormed = false := by decide

theorem test_full_payload_is_well_formed : (Instr.present .d 0 (List.replicate 72 0)).wellFormed = true := by decide

theorem test_long_frame_is_ill_formed :
    (Instr.validFrameArrival .t1 0 0x20 (List.replicate 73 0)).wellFormed = false := by decide

theorem test_known_code_is_not_unknown : (Instr.unknownCommand .t2 0 0x05 []).wellFormed = false := by decide

theorem test_unknown_with_long_payload_is_ill_formed :
    (Instr.unknownCommand .t2 0 0x06 (List.replicate 73 0)).wellFormed = false := by decide

theorem test_too_much_sensed_is_ill_formed :
    (Instr.stringFrameEnd 0 0 (List.replicate 257 ⟨false, false⟩) []).wellFormed = false := by decide +kernel

/-! ### No row of the table gives bits (log entry 1) -/

theorem test_no_word_spells_a_command : decodeTableWord 8 0x01 = none := by decide

theorem test_no_word_is_queued : (State.reset.withFetchWord 8 0x01).pending = [] := by decide

/-! ### Arithmetic of the manual's worked figures -/

-- R1, table of 1.1.
theorem test_lamp_2613_location : (stringOf 2613, moduleOf 2613, positionOf 2613) = (10, 6, 5) := by decide

theorem test_lamp_4095_location : (stringOf 4095, moduleOf 4095, positionOf 4095) = (15, 31, 7) := by decide

-- 5.5, worked figures: day lamp, stale DIM zone, alarm in that zone, night.
theorem test_level_figures :
    subFrameCount (levelTwo (levelZero 255 128) false 32) = 8 ∧ subFrameCount (levelTwo (levelZero 180 200) true 24) = 2 ∧
    subFrameCount (levelTwo (levelZero 180 200) false 24) = 9 ∧ subFrameCount (levelTwo (levelZero 20 200) false 24) = 2 := by
  decide

-- The published check value of the CRC with the settings of 9.2, over the digits 1 to 9 in ASCII.
theorem test_crc_of_the_digits : crc16 [0x31, 0x32, 0x33, 0x34, 0x35, 0x36, 0x37, 0x38, 0x39] = 0x29B1 := by decide +kernel

/-! ### One step of each event -/

theorem test_step_takes_the_front :
    (next (step { live with pending := [.lampTestInputAssertion, .subFrame] })).pending = [.subFrame] := by decide

-- R150, R163.
theorem test_power_up_samples_the_pins :
    (fun t : State => (t.lineRate, t.testInput)) (next (exec (.powerUpReset true false true) live)) = (.r115200, true) := by
  decide

theorem test_reset_pin_silences_the_horn :
    (next (exec .resetPinAsserted { zoned with horn := .sounding })).hornPin = false := by decide

-- R47, R155.
theorem test_valid_frame_joins_the_queue :
    (fun t : State => (t.ports.t2.commands, t.links.t2.state)) (next (exec (.validFrameArrival .t2 9 0x20 []) .reset)) =
      ([⟨9, 0x20, []⟩], .live) := by decide

-- R154: a length above 72 discards the frame at once.
theorem test_length_73_is_discarded :
    (fun t : State => (t.ports.t1.rx, t.counters[0].value)) (next (exec (.frameDiscard .t1 73 false)
      { live with
        ports := PerPort.set live.ports .t1 { PortState.reset with rx := ⟨.length, [], true⟩ }
        counters := Vector.replicate 4 ⟨.framesDiscarded, .all true, none, .wrap, 0⟩ })) = (.idle, 1) := by decide

theorem test_byte_starts_a_frame : (next (exec (.byteTaken .d 0xA5 false) live)).ports.d.rx = ⟨.length, [], true⟩ := by decide

theorem test_gap_expiry_discards :
    (next (exec (.gapTimerExpiry .d)
      { live with ports := PerPort.set live.ports .d { PortState.reset with rx := ⟨.body, [1], true⟩ } })).ports.d.rx =
      .idle := by decide

theorem test_port_reset_empties_the_queues :
    (fun q : PortState => (q.commands, q.inBreak)) (next (exec (.portReset .t1) (offer live .t1 0x20 []))).ports.t1 =
      ([], true) := by decide

theorem test_mark_ends_the_break :
    (next (exec (.lineReturnedToMark .t1) (next (exec (.portReset .t1) live)))).ports.t1.inBreak = false := by decide

-- R156 and the reply frame of 9.2: SYNC, LENGTH, TAG, CODE, STATUS, ROOM, PAYLOAD.
theorem test_reply_frame_layout :
    (next (exec (.transmitReply .d) { live with
      ports := PerPort.set live.ports .d { PortState.reset with replies := [⟨7, 0x20, .done, [1, 0]⟩] } })).ports.d.sending.map
        (List.take 8) = some [0x5A, 2, 7, 0x20, 0x00, 8, 1, 0] := by decide

theorem test_reply_sent_leaves_the_transmitter_idle :
    (next (exec (.replySent .d) { live with
      ports := PerPort.set live.ports .d { PortState.reset with sending := some [0x5A] } })).transmitAtMark .d = true := by
  decide

theorem test_unknown_code : said .t2 (next (exec (.unknownCommand .t2 7 0x06 [1]) (offer live .t2 0x06 [1]))) =
    some (.unknown, []) := by decide

-- R14.
theorem test_write_aspects : (fun t : State => (t.lamps[5].telemetry, t.lamps[6].telemetry, said .t1 t))
    (next (exec (.writeAspects .t1 7 [0, 5, 2, 2, 3] []) (offer live .t1 0x01 [0, 5, 2, 2, 3]))) =
      (.slow, .fast, some (.done, [0, 5, 2])) := by decide

-- R13: the other port's zone.
theorem test_write_aspects_needs_ownership :
    said .t2 (next (exec (.writeAspects .t2 7 [0, 7, 2, 1, 1] []) (offer zoned .t2 0x01 [0, 7, 2, 1, 1]))) =
      some (.notOwner, [0, 7]) := by decide

-- R16: a lamp in NEW made incapable of alarm leaves its zone's count, and the horn falls QUIET.
theorem test_set_attributes_silences :
    (fun t : State => (t.lamps[1].alarm, t.zones[0].unack, t.horn)) (next (exec (.setAttributes .t1 7 [0, 1, 1, 0, 0, 5, 1] [])
      (offer { zoned with horn := .sounding } .t1 0x02 [0, 1, 1, 0, 0, 5, 1]))) = (.normal, 0, .quiet) := by decide +kernel

theorem test_set_attributes_unsupervises :
    (fun t : State => (t.lamps[9].health, t.lamps[9].attrs.dimGroup))
      (next (exec (.setAttributes .t1 7 [0, 9, 1, 1, 1, 7, 0] []) (offer live .t1 0x02 [0, 9, 1, 1, 1, 7, 0]))) =
      (.unsupervised, 7) := by decide

theorem test_force_lamp : (next (exec (.forceLamp .d 7 [0, 2, 0] []) (offer live .d 0x03 [0, 2, 0]))).lamps[2].override =
    some .dark := by decide

theorem test_unforce : (next (exec (.unforce .d 7 [0, 2] []) (offer (live.setLamp 2
    { LampRecord.reset with override := some .lit }) .d 0x04 [0, 2]))).lamps[2].override = none := by decide

-- The packed record of 9.2: LIT and no override, NEW and UNKNOWN, capable SOUND supervised, zone 0.
theorem test_read_lamps_record : said .d (next (exec (.readLamps .d 7 [0, 1, 1] []) (offer zoned .d 0x05 [0, 1, 1]))) =
    some (.done, [0, 1, 1, 0x04, 0x10, 0x38, 0x00, 0x00, 0x00]) := by decide

-- R33: the count of the new range is taken from the lamps.
theorem test_define_zone_counts :
    (fun t : State => (t.zones[1].enabled, t.zones[1].unack, t.zones[1].stale, said .t1 t))
      (next (exec (.defineZone .t1 7 [1, 0, 0, 0, 8, 2, 0xFF, 0xFF])
        (offer (live.setLamp 1 (alarmLamp .new)) .t1 0x10 [1, 0, 0, 0, 8, 2, 0xFF, 0xFF]))) =
      (true, 1, true, some (.done, [1, 0])) := by decide

theorem test_define_zone_overlap : said .t2 (next (exec (.defineZone .t2 7 [1, 0, 0, 0, 16, 0, 0xFF, 0xFF])
    (offer zoned .t2 0x10 [1, 0, 0, 0, 16, 0, 0xFF, 0xFF]))) = some (.overlap, [0]) := by decide

theorem test_disable_zone : (fun z : ZoneRecord => (z.enabled, z.owner, z.stale, z.unack))
    (next (exec (.disableZone .t1 7 [0]) (offer zoned .t1 0x11 [0]))).zones[0] = (false, none, true, 0) := by decide

theorem test_claim_zone_held : said .t2 (next (exec (.claimZone .t2 7 [0]) (offer zoned .t2 0x12 [0]))) =
    some (.held, [0, 1]) := by decide

theorem test_release_zone_keeps_stale : (fun z : ZoneRecord => (z.owner, z.stale))
    (next (exec (.releaseZone .t1 7 [0]) (offer zoned .t1 0x13 [0]))).zones[0] = (none, false) := by decide

theorem test_mark_current_needs_the_owner :
    said .t2 (next (exec (.markCurrent .t2 7 [0]) (offer zoned .t2 0x14 [0]))) = some (.notOwner, [0, 1]) := by decide

-- R40, R41: the zone, and then the fields of its record.
theorem test_read_zone : said .d (next (exec (.readZone .d 7 [0]) (offer zoned .d 0x15 [0]))) =
    some (.done, [0, 1, 0, 0, 0, 8, 1, 0, 1, 0xFF, 0xFF, 0, 1, 0, 0]) := by decide

theorem test_present : said .t1 (next (exec (.present .t1 7 []) (offer live .t1 0x20 []))) = some (.done, [1, 0]) := by decide

theorem test_set_timeout_clamps : (fun t : State => (t.links.t1.timeout, said .t1 t))
    (next (exec (.setTimeout .t1 7 [0xFF, 0]) (offer live .t1 0x21 [0xFF, 0]))) = (300, some (.done, [1, 44])) := by decide

theorem test_set_allowance_clamps : (next (exec (.setAllowance .d 7 [200]) (offer live .d 0x22 [200]))).links.d.allowance =
    127 := by decide

theorem test_read_link : said .t1 (next (exec (.readLink .t1 7 []) (offer .reset .t1 0x23 []))) =
    some (.done, [0, 0, 0, 0, 50, 0, 0, 0, 0, 50, 0, 0, 0, 0, 50]) := by decide

theorem test_post_handover : (next (exec (.postHandover .t2 7 [0xAB, 0xCD]) (offer live .t2 0x24 [0xAB, 0xCD]))).slot =
    ⟨.posted, 0xABCD, some .t2⟩ := by decide

theorem test_take_handover : (fun t : State => (t.slot, said .t1 t)) (next (exec (.takeHandover .t1 7 [])
    (offer { live with slot := ⟨.posted, 0xABCD, some .t2⟩ } .t1 0x25 []))) =
      (.reset, some (.done, [1, 0xAB, 0xCD, 2])) := by decide

-- R48, R50: with no allowance left the port lapses.
theorem test_silence_timer_lapses : (fun t : State => (t.links.t1.state, t.links.t1.allowance, t.zones[0].owner, t.zones[0].stale))
    (next (exec (.silenceTimerExpiry .t1) zoned)) = (.silent, -1, none, true) := by decide +kernel

theorem test_silence_timer_spends : (fun t : State => (t.links.d.state, t.links.d.allowance)) (next (exec (.silenceTimerExpiry .d)
    { live with links := .all ⟨.live, some 50, 50, 1, false⟩ })) = (.live, 0) := by decide

-- R66, R74: one of two lamps enters NEW.
theorem test_raise_alarm : (fun t : State => (t.lamps[0].alarm, t.zones[0].unack, t.horn, said .t1 t))
    (next (exec (.raiseAlarm .t1 7 [0, 0, 2] []) (offer zoned .t1 0x30 [0, 0, 2]))) =
      (.new, 2, .sounding, some (.done, [0, 0, 2, 1])) := by decide

theorem test_raise_alarm_needs_capable : said .t1 (next (exec (.raiseAlarm .t1 7 [0, 3, 2] []) (offer zoned .t1 0x30 [0, 3, 2]))) =
    some (.notAlarm, [0, 4]) := by decide

theorem test_clear_alarm : (fun t : State => (t.lamps[1].alarm, t.zones[0].unack, said .t1 t))
    (next (exec (.clearAlarm .t1 7 [0, 1, 1] []) (offer zoned .t1 0x31 [0, 1, 1]))) =
      (.returned, 1, some (.done, [0, 1, 1, 1])) := by decide

theorem test_acknowledge_zone : (fun t : State => (t.lamps[1].alarm, t.zones[0].unack, t.zones[0].standing, said .t1 t))
    (next (exec (.acknowledge .t1 7 [2, 0] []) (offer zoned .t1 0x32 [2, 0]))) =
      (.standing, 0, 1, some (.done, [2, 0, 0, 1])) := by decide

theorem test_acknowledge_lamps_of_another : said .t2 (next (exec (.acknowledge .t2 7 [1, 0, 1, 2] [])
    (offer zoned .t2 0x32 [1, 0, 1, 2]))) = some (.notOwner, [0, 1]) := by decide

theorem test_silence_horn : (fun t : State => (t.horn, (t.notices.get .t1)[NoticeKind.horn.index]))
    (next (exec (.silenceHorn .d 7 []) (offer { zoned with horn := .sounding } .d 0x33 []))) = (.quiet, true) := by decide

theorem test_start_scan_reply : (fun t : State => (t.scan, t.nextFrame, said .t1 t))
    (next (exec (.startScan .t1 7 [] []) (offer running .t1 0x40 []))) = (.running, some 10, some (.done, [1, 0, 0, 0, 0])) := by
  decide

theorem test_stop_scan : (fun t : State => (t.scan, t.progress, t.nextFrame, said .t2 t))
    (next (exec (.stopScan .t2 7 []) (offer { running with frameCount := 258 } .t2 0x41 []))) =
      (.dark, .none, none, some (.done, [1, 0, 0, 1, 2])) := by decide

theorem test_set_levels_clamps_the_floor : said .d (next (exec (.setLevels .d 7 [255, 3, 1, 2, 3, 4, 5, 6, 7, 8])
    (offer live .d 0x42 [255, 3, 1, 2, 3, 4, 5, 6, 7, 8]))) = some (.done, [255, 16, 1, 2, 3, 4, 5, 6, 7, 8]) := by decide

theorem test_set_timing_is_pending_while_running : (fun t : State => (t.timing.period, t.pendingTiming, t.holdLimit))
    (next (exec (.setTiming .t1 7 [4, 255, 3, 0, 121]) (offer running .t1 0x43 [4, 255, 3, 0, 121]))) =
      (10, some ⟨5, 200, 4⟩, 1) := by decide

theorem test_hold_board : (fun t : State => (t.hold, said .d t)) (next (exec (.holdBoard .d 7 [])
    (offer { running with frameCount := 9 } .d 0x44 []))) = (.held .d 9 5, some (.done, [4, 0, 0, 0, 9])) := by decide

theorem test_release_hold_not_holder : said .t2 (next (exec (.releaseHold .t2 7 [])
    (offer { running with hold := .held .t1 9 5 } .t2 0x45 []))) = some (.notHolder, [1]) := by decide

theorem test_hold_limit_expiry : (next (exec .holdLimitExpiry { running with hold := .held .t1 9 5 })).hold = .free := by decide

theorem test_lamp_test_start : (fun t : State => (t.session, said .d t)) (next (exec (.lampTestStart .d 7 [])
    (offer running .d 0x46 []))) = (.on .command 30, some (.done, [1, 2])) := by decide

theorem test_lamp_test_stop : (next (exec (.lampTestStop .d 7 []) (offer { running with session := .on .pin 30 } .d 0x47 []))).session =
    .off := by decide

theorem test_lamp_test_input : (next (exec .lampTestInputAssertion running)).session = .on .pin 30 := by decide

theorem test_lamp_test_input_release_leaves_a_commanded_session :
    (next (exec .lampTestInputRelease { running with testInput := true, session := .on .command 30 })).session =
      .on .command 30 := by decide

theorem test_lamp_test_limit : (next (exec .lampTestLimitExpiry { running with session := .on .pin 30 })).session = .off := by
  decide

-- R85.
theorem test_frame_start_advances : (fun t : State => (t.slowPhase, t.fastPhase, t.frameCount))
    (next (exec (.frameStart []) { running with slowPhase := 99, fastPhase := 3, frameCount := 4294967295 })) = (0, 4, 0) := by
  decide +kernel

-- R106: in sub-frame 3 a lamp with drive count 4 is on and one with drive count 3 is off.
theorem test_sub_frame : (fun t : State => (t.lampOn 0, t.lampOn 1)) (next (exec .subFrame
    { running with progress := .driving 3, drive := (running.drive.set 0 4).set 1 3 })) = (true, false) := by decide

theorem test_frame_end : (next (exec .frameEnd { running with progress := .driving 16 })).progress = .answering [0] := by decide

-- R109, R115: the first driven lamp of the string is OPEN after the third open mismatch in a row.
theorem test_string_frame_end_opens : (fun t : State => (t.lamps[0].health, t.failures.map FailureEntry.lamp))
    (next (exec (.stringFrameEnd 0 1 [] []) { running with
      progress := .answering [0]
      drive := running.drive.set 0 16
      lamps := running.lamps.set 0 { LampRecord.reset with runCount := 2 } })) = (.opened, [0]) := by decide

theorem test_string_frame_end_breaks : (fun t : State => (t.strings[0].state, t.fault.kind))
    (next (exec (.stringFrameEnd 0 0 [] []) { running with progress := .answering [0] })) = (.broken, some .chain) := by decide

theorem test_set_string : (next (exec (.setString .t1 7 [15, 40] []) (offer live .t1 0x50 [15, 40]))).strings[15] =
    ⟨32, none, .intact, 0⟩ := by decide

theorem test_set_supervision : said .t1 (next (exec (.setSupervision .t1 7 [0, 16]) (offer live .t1 0x51 [0, 16]))) =
    some (.done, [1, 15]) := by decide

theorem test_read_strings : (said .d (next (exec (.readStrings .d 7 []) (offer running .d 0x52 [])))).map
    (fun a => a.2.take 8) = some [1, 0xFF, 1, 1, 0, 0xFF, 0, 0] := by decide

-- The worked sequence of 7.1, step 5: two returned, one left, 300 recovered.
theorem test_take_failures : (fun t : State => (t.failures.map FailureEntry.lamp, said .t1 t))
    (next (exec (.takeFailures .t1 7 [2]) (offer { live with failures := [⟨300, .opened, 1000, false, true⟩,
      ⟨1800, .stuck, 1004, false, false⟩, ⟨2613, .opened, 1010, false, false⟩] } .t1 0x60 [2]))) =
      ([1800, 2613], some (.done, [0, 2, 1, 1, 44, 0, 0, 3, 232, 0x12, 7, 8, 0, 0, 3, 236, 0x03])) := by decide

theorem test_read_fault : said .d (next (exec (.readFault .d 7 []) (offer { live with
    fault := ⟨⟨false, false, true⟩, ⟨true, false, false⟩, some .chain, some (.string 3), 9, true⟩ } .d 0x61 []))) =
      some (.done, [4, 1, 4, 3, 0, 0, 0, 9, 1]) := by decide

theorem test_release_fault : (next (exec (.releaseFault .d 7 [4]) (offer { live with
    fault := ⟨⟨false, false, true⟩, ⟨true, false, false⟩, some .chain, some (.string 3), 9, true⟩ } .d 0x62 [4]))).fault =
      .reset := by decide

theorem test_set_fault_mask : said .t1 (next (exec (.setFaultMask .t1 7 [0x0A]) (offer live .t1 0x63 [0x0A]))) =
    some (.done, [2]) := by decide

theorem test_set_window : (fun t : State => (t.windows[3], said .d t)) (next (exec (.setWindow .d 7 [3, 0, 0, 0, 7, 3, 1, 1])
    (offer live .d 0x70 [3, 0, 0, 0, 7, 3, 1, 1]))) =
      (⟨0, 7, ⟨true, true, false⟩, ⟨true, false, false, false, false⟩, .block⟩,
        some (.done, [3, 0, 0, 0, 7, 3, 1, 1])) := by decide

-- R143: a BLOCK window over lamps 4 to 7 stops a write of lamps 2 to 5 and names lamp 4.
theorem test_window_blocks : (fun t : State => (t.lamps[2].telemetry, said .t1 t))
    (next (exec (.writeAspects .t1 7 [0, 2, 4, 1, 1, 1, 1] []) (offer blocking .t1 0x01 [0, 2, 4, 1, 1, 1, 1]))) =
      (.dark, some (.blocked, [3, 0, 4])) := by decide

theorem test_read_watch_windows : (said .d (next (exec (.readWatch .d 7 []) (offer live .d 0x71 [])))).map
    (fun a => (a.2.drop 14).take 8) = some [0x0F, 0xFF, 0, 0, 0, 0, 0, 0] := by decide

theorem test_release_watch : (next (exec (.releaseWatch .d 7 []) (offer { live with
    capture := ⟨some ⟨0, .t1, 1, 0, .aspect, 4, false, 1⟩, true⟩ } .d 0x72 []))).capture = ⟨none, false⟩ := by decide

theorem test_set_arbitration : (fun t : State => (t.mode, said .t2 t)) (next (exec (.setArbitration .t2 7 [1])
    (offer live .t2 0x80 [1]))) = (.priority, some (.done, [0, 1])) := by decide

theorem test_set_routing : (next (exec (.setRouting .d 7 [2, 4]) (offer live .d 0x90 [2, 4]))).routing[1] =
    ⟨false, false, true⟩ := by decide

theorem test_take_notices : (fun t : State => (said .d t, t.attention .d)) (next (exec (.takeNotices .d 7 [])
    (offer (live.raise .test) .d 0x91 []))) = (some (.done, [2, 0]), false) := by decide

theorem test_set_counter : (next (exec (.setCounter .t1 7 [2, 5, 7, 0xFF, 1]) (offer live .t1 0x92 [2, 5, 7, 0xFF, 1]))).counters[2] =
    ⟨.acks, .all true, none, .stick, 0⟩ := by decide

theorem test_read_counters : (said .t1 (next (exec (.readCounters .t1 7 []) (offer live .t1 0x93 [])))).map
    (fun a => a.2.take 8) = some [1, 7, 0xFF, 0, 0, 0, 0, 0] := by decide

/-! ### Witnesses: states and operands that meet the hypotheses of the statements -/

theorem offer_takes (s : State) (p : Port) (code : Byte) (payload : List Byte) (h : s.resetAsserted = false)
    (hm : s.mode = .fair) (hs : s.served = [.d, .t1, .t2]) :
    (offer s p code payload).takes p ⟨7, code, payload⟩ = true := by
  cases p <;>
    simp [offer, State.takes, State.choice, State.waiting, h, hm, hs, PerPort.set, PerPort.all, PerPort.get,
      PortState.reset, Config.queueDepth]

/-- Every offer to a state built from `live` is taken. -/
theorem live_takes (p : Port) (code : Byte) (payload : List Byte) :
    (offer live p code payload).takes p ⟨7, code, payload⟩ = true := offer_takes _ _ _ _ rfl rfl rfl

theorem zoned_takes (p : Port) (code : Byte) (payload : List Byte) :
    (offer zoned p code payload).takes p ⟨7, code, payload⟩ = true := offer_takes _ _ _ _ rfl rfl rfl

theorem running_takes (p : Port) (code : Byte) (payload : List Byte) :
    (offer running p code payload).takes p ⟨7, code, payload⟩ = true := offer_takes _ _ _ _ rfl rfl rfl

/-- Where no zone is enabled every telemetry port may write every lamp. -/
theorem live_mayWrite (q p : Port) (code : Byte) (payload : List Byte) (i : Lamp) :
    (offer live q code payload).mayWrite p i = true := by
  have h : (offer live q code payload).zoneOf i.val = none := by
    simp [State.zoneOf, offer, live, State.reset, ZoneRecord.holds, ZoneRecord.reset]
  simp [State.mayWrite, h]

/-- Where no window is active every command passes the watch check. -/
theorem inactive_passes {s : State} (h : s.windows = State.reset.windows) (p : Port) (k : WatchKind) (low high : Nat) :
    s.passes p k low high := by
  intro x hx
  simp [State.matches, h, State.reset, Window.meets, Window.active, Window.reset] at hx

theorem judgedIn_windows (s : State) (p : Port) (c : Instr) : (s.judgedIn p c).windows = s.windows := by
  rw [State.judgedIn, State.checkLamps_frame]
  simp only [State.takeHead, State.setPort]
  rw [State.land_frame]

theorem live_passes (p q : Port) (code : Byte) (payload : List Byte) (c : Instr) (k : WatchKind) (low high : Nat) :
    ((offer live q code payload).judgedIn p c).passes p k low high :=
  inactive_passes (by rw [judgedIn_windows]; rfl) _ _ _ _

theorem zoned_passes (p q : Port) (code : Byte) (payload : List Byte) (c : Instr) (k : WatchKind) (low high : Nat) :
    ((offer zoned q code payload).judgedIn p c).passes p k low high :=
  inactive_passes (by rw [judgedIn_windows]; rfl) _ _ _ _

theorem witness_StepRunsTheFrontEvent :
    ({ live with pending := [.subFrame, .frameEnd] } : State).pending = [.subFrame, .frameEnd] ∧ live.pending = [] :=
  ⟨rfl, rfl⟩

theorem witness_ResetPinAndPowerUp : ({ live with resetAsserted := true } : State).resetAsserted = true ∧
    Instr.subFrame ≠ .resetPinAsserted ∧ ∀ a b c, Instr.subFrame ≠ .powerUpReset a b c := by decide

theorem witness_EveryTakingYieldsOneReply : (Instr.present .t1 7 []).command? = some (.t1, ⟨7, 0x20, []⟩) ∧
    live.takes .t1 ⟨7, 0x20, []⟩ = false ∧ (offer live .t1 0x20 []).takes .t1 ⟨7, 0x20, []⟩ = true ∧
    (0x20 : Byte) ≠ 0x92 ∧ (offer live .t1 0x20 []).counters[3].event = .commandsDone := by decide

theorem witness_ArbiterChoosesAWaitingPort : (offer live .t2 0x20 []).served.Perm [.d, .t1, .t2] ∧
    (offer live .t2 0x20 []).choice = some .t2 := by decide

theorem witness_WrongLengthIsRefused :
    ((Instr.present .t1 7 [0]).command? = some (.t1, ⟨7, 0x20, [0]⟩) ∧
      (offer live .t1 0x20 [0]).takes .t1 ⟨7, 0x20, [0]⟩ = true ∧ lengthOk 0x20 [0] = false) ∧
    ((Instr.acknowledge .d 7 [1, 0, 0] []).command? = some (.d, ⟨7, 0x32, [1, 0, 0]⟩) ∧
      (offer live .d 0x32 [1, 0, 0]).takes .d ⟨7, 0x32, [1, 0, 0]⟩ = true ∧ lengthOk 0x32 [1, 0, 0] = false) ∧
    ((Instr.present .t1 7 []).command? = some (.t1, ⟨7, 0x20, []⟩) ∧
      (offer live .t1 0x20 []).takes .t1 ⟨7, 0x20, []⟩ = true ∧ lengthOk 0x20 [] = true) := by decide

theorem witness_UnknownCodeAndWrongRole :
    ((0x06 : Byte) ∉ knownCodes ∧ (offer live .t1 0x06 []).takes .t1 ⟨7, 0x06, []⟩ = true) ∧
    ((Instr.forceLamp .t1 7 [0, 0, 0] []).command? = some (.t1, ⟨7, 0x03, [0, 0, 0]⟩) ∧
      (offer live .t1 0x03 [0, 0, 0]).takes .t1 ⟨7, 0x03, [0, 0, 0]⟩ = true ∧
      lengthOk 0x03 [0, 0, 0] = true ∧ roleOk .t1 0x03 [0, 0, 0] = false) ∧
    ((Instr.acknowledge .t1 7 [3] []).command? = some (.t1, ⟨7, 0x32, [3]⟩) ∧
      (offer live .t1 0x32 [3]).takes .t1 ⟨7, 0x32, [3]⟩ = true ∧
      lengthOk 0x32 [3] = true ∧ roleOk .t1 0x32 [3] = false) := by decide

theorem witness_RefusedCommandWritesNothing :
    (offer blocking .t1 0x01 [0, 4, 1, 1]).takes .t1 ⟨7, 0x01, [0, 4, 1, 1]⟩ = true ∧
    said .t1 (next (exec (.writeAspects .t1 7 [0, 4, 1, 1] []) (offer blocking .t1 0x01 [0, 4, 1, 1]))) =
      some (.blocked, [3, 0, 4]) ∧
    (offer live .t1 0x01 [0, 4, 1, 9]).takes .t1 ⟨7, 0x01, [0, 4, 1, 9]⟩ = true ∧
    said .t1 (next (exec (.writeAspects .t1 7 [0, 4, 1, 9] []) (offer live .t1 0x01 [0, 4, 1, 9]))) =
      some (.range, [0, 4]) := by decide

/-- The state with one event in the queue. -/
def queued (s : State) (c : Instr) : State := { s with pending := [c] }

theorem witness_OwnershipIsKept : OwnershipOk (queued zoned (.silenceTimerExpiry .t1)) ∧
    ∃ t, step (queued zoned (.silenceTimerExpiry .t1)) = .next t :=
  ⟨⟨fun z p => by cases p <;> revert z <;> decide, fun p => by cases p <;> decide, fun p => by cases p <;> decide,
    by decide, by decide⟩, _, rfl⟩

theorem witness_ZoneTableIsKept : ZonesOk (queued zoned (.silenceTimerExpiry .t1)) ∧
    ∃ t, step (queued zoned (.silenceTimerExpiry .t1)) = .next t :=
  ⟨⟨by decide +kernel, by decide +kernel, by decide +kernel⟩, _, rfl⟩

theorem zoned_alarms : AlarmsOk zoned := by
  refine ⟨by decide +kernel, by decide +kernel, fun i => ?_⟩
  simp only [zoned, State.setLamp, Fin.getElem_fin, Vector.getElem_set]
  repeat' split
  all_goals simp [alarmLamp, live, State.setZone, State.reset, LampRecord.reset]

theorem witness_AlarmCountsAreKept : ZonesOk (queued zoned (.frameStart [])) ∧ AlarmsOk (queued zoned (.frameStart [])) ∧
    ∃ t, step (queued zoned (.frameStart [])) = .next t :=
  ⟨⟨by decide +kernel, by decide +kernel, by decide +kernel⟩,
    ⟨zoned_alarms.unack, zoned_alarms.standing, zoned_alarms.capable⟩, _, rfl⟩

theorem witness_HornLawIsKept : HornOk (queued { zoned with horn := .sounding } .subFrame) ∧
    ∃ t, step (queued { zoned with horn := .sounding } .subFrame) = .next t :=
  ⟨fun _ => ⟨1, by decide⟩, _, rfl⟩

theorem witness_PortsAreKept : PortsOk (queued (offer live .t1 0x20 []) (.present .t1 7 [])) ∧
    ∃ t, step (queued (offer live .t1 0x20 []) (.present .t1 7 [])) = .next t :=
  ⟨⟨fun p => Or.inl (by cases p <;> rfl), fun p => by cases p <;> decide, fun p => by cases p <;> decide, by decide⟩,
    _, rfl⟩

theorem running_strings : ∀ n : StringNo, running.strings[n].count ≤ 32 ∧ running.strings[n].lastAnswer ≤ 63 ∧
    (running.strings[n].state = .unused ↔ running.strings[n].count = 0) ∧ running.strings[n].pending = none := by decide

theorem witness_ScanIsKept : ScanOk (queued running (.frameStart [])) ∧
    ∃ t, step (queued running (.frameStart [])) = .next t := by
  refine ⟨⟨fun h => (by cases h), by decide, fun j h => (by cases h), fun l h => ?_, ⟨?_, fun t h => (by cases h)⟩,
    by decide, fun n => ?_⟩, _, rfl⟩
  · cases h
    decide
  · unfold Timing.ok
    decide
  · have h := running_strings n
    exact ⟨h.1, h.2.1, h.2.2.1, fun c hc => by cases h.2.2.2.symm.trans hc⟩

theorem witness_LampRecordsAreKept : LampsOk (queued live (.frameStart [])) ∧
    ∃ t, step (queued live (.frameStart [])) = .next t := by
  refine ⟨⟨?_, ?_, ?_, ?_, by decide, by decide⟩, _, rfl⟩ <;>
    simp [queued, live, State.reset, LampRecord.reset, Rendering.ok]

theorem witness_LinkRecordsAreKept : LinksOk (queued live (.silenceTimerExpiry .d)) ∧
    ∃ t, step (queued live (.silenceTimerExpiry .d)) = .next t :=
  ⟨fun p => ⟨by cases p <;> decide, by cases p <;> decide, fun n h => by cases p <;> cases h <;> decide⟩, _, rfl⟩

/-- A frozen fault record and one failure list entry. -/
def faulty : State :=
  { live with
    fault := ⟨⟨false, false, true⟩, ⟨true, false, false⟩, some .chain, some (.string 3), 9, true⟩
    failures := [⟨300, .opened, 1000, false, true⟩] }

theorem witness_FrozenRecordsAreKept : RecordsOk (queued faulty .subFrame) ∧
    ∃ t, step (queued faulty .subFrame) = .next t :=
  ⟨⟨fun h => absurd h (by decide), fun _ => ⟨_, _, rfl, rfl, trivial⟩, fun _ => rfl, by decide⟩, _, rfl⟩

theorem witness_WriteAspectsSetsTelemetry :
    ((offer live .t1 0x01 (0x0F :: 0xFF :: 1 :: [Aspect.lit].map Aspect.code)).takes .t1
        ⟨7, 0x01, 0x0F :: 0xFF :: 1 :: [Aspect.lit].map Aspect.code⟩ = true ∧
      number16 0x0F 0xFF + 1 = 4096 ∧ (1 : Byte).toNat = [Aspect.lit].length ∧
      (∀ i, (offer live .t1 0x01 (0x0F :: 0xFF :: 1 :: [Aspect.lit].map Aspect.code)).mayWrite .t1 i = true) ∧
      ((offer live .t1 0x01 (0x0F :: 0xFF :: 1 :: [Aspect.lit].map Aspect.code)).judgedIn .t1
        (.writeAspects .t1 7 (0x0F :: 0xFF :: 1 :: [Aspect.lit].map Aspect.code) [])).passes .t1 .aspect 4095 4095) ∧
    ((offer live .t2 0x01 (0 :: 0 :: 64 :: (List.replicate 64 Aspect.fast).map Aspect.code)).takes .t2
        ⟨7, 0x01, 0 :: 0 :: 64 :: (List.replicate 64 Aspect.fast).map Aspect.code⟩ = true ∧
      (64 : Byte).toNat = (List.replicate 64 Aspect.fast).length ∧
      (∀ i, (offer live .t2 0x01 (0 :: 0 :: 64 :: (List.replicate 64 Aspect.fast).map Aspect.code)).mayWrite .t2 i = true) ∧
      ((offer live .t2 0x01 (0 :: 0 :: 64 :: (List.replicate 64 Aspect.fast).map Aspect.code)).judgedIn .t2
        (.writeAspects .t2 7 (0 :: 0 :: 64 :: (List.replicate 64 Aspect.fast).map Aspect.code) [])).passes .t2 .aspect 0 63) :=
  ⟨⟨live_takes _ _ _, rfl, rfl, live_mayWrite _ _ _ _, live_passes _ _ _ _ _ _ _ _⟩,
    ⟨live_takes _ _ _, rfl, live_mayWrite _ _ _ _, live_passes _ _ _ _ _ _ _ _⟩⟩

theorem witness_SetAttributesGivesAttributes :
    ((offer zoned .t1 0x02 [0, 1, 1, 0, 0, 5, 1]).takes .t1 ⟨7, 0x02, [0, 1, 1, 0, 0, 5, 1]⟩ = true ∧
      [0, 0, 5, 1] = [(⟨false, .quiet, 5, true⟩ : Attributes)].flatMap fun a =>
        [flagByte a.alarmCapable, a.hornClass.code, byte a.dimGroup.val, flagByte a.supervised]) ∧
    ((offer zoned .t1 0x02 [0, 1, 1, 0, 0, 5, 1]).mayWrite .t1 1 = true ∧
      (∀ i : Lamp, (number16 0 1 ≤ i.val && i.val < number16 0 1 + (1 : Byte).toNat) = true → i = 1) ∧
      ((offer zoned .t1 0x02 [0, 1, 1, 0, 0, 5, 1]).judgedIn .t1
        (.setAttributes .t1 7 [0, 1, 1, 0, 0, 5, 1] [])).passes .t1 .attributes 1 1) := by
  refine ⟨⟨zoned_takes _ _ _, by decide⟩, by decide, fun i h => ?_, zoned_passes _ _ _ _ _ _ _ _⟩
  simp [number16] at h
  exact Fin.ext (by simp; omega)

theorem witness_OverridesAreSetAndTakenAway :
    ((offer live .d 0x03 [0x0F, 0xFF, Aspect.dark.code]).takes .d ⟨7, 0x03, [0x0F, 0xFF, Aspect.dark.code]⟩ = true ∧
      number16 0x0F 0xFF = (4095 : Lamp).val ∧ ((offer live .d 0x03 [0x0F, 0xFF, Aspect.dark.code]).judgedIn .d
        (.forceLamp .d 7 [0x0F, 0xFF, Aspect.dark.code] [])).passes .d .override 4095 4095) ∧
    ((offer live .d 0x04 [0, 0]).takes .d ⟨7, 0x04, [0, 0]⟩ = true ∧ number16 0 0 = (0 : Lamp).val ∧
      ((offer live .d 0x04 [0, 0]).judgedIn .d (.unforce .d 7 [0, 0] [])).passes .d .override 0 0) ∧
    ((offer live .d 0x04 [0xFF, 0xFF]).takes .d ⟨7, 0x04, [0xFF, 0xFF]⟩ = true ∧
      ((offer live .d 0x04 [0xFF, 0xFF]).judgedIn .d (.unforce .d 7 [0xFF, 0xFF] [])).passes .d .override 0 4095) ∧
    ((offer live .d 0x03 [0x10, 0, 0]).takes .d ⟨7, 0x03, [0x10, 0, 0]⟩ = true ∧ number16 0x10 0 > 4095) ∧
    ((offer live .d 0x03 [0, 0, 4]).takes .d ⟨7, 0x03, [0, 0, 4]⟩ = true ∧ (4 : Byte).toNat > 3) ∧
    ((offer live .d 0x04 [0xFF, 0xFE]).takes .d ⟨7, 0x04, [0xFF, 0xFE]⟩ = true ∧ number16 0xFF 0xFE > 4095 ∧
      number16 0xFF 0xFE ≠ 0xFFFF) :=
  ⟨⟨live_takes _ _ _, rfl, live_passes _ _ _ _ _ _ _ _⟩, ⟨live_takes _ _ _, rfl, live_passes _ _ _ _ _ _ _ _⟩,
    ⟨live_takes _ _ _, live_passes _ _ _ _ _ _ _ _⟩, ⟨live_takes _ _ _, by decide⟩, ⟨live_takes _ _ _, by decide⟩,
    ⟨live_takes _ _ _, by decide, by decide⟩⟩

theorem witness_ReadLampsReportsTheRecords :
    ((offer live .d 0x05 [0x0F, 0xF0, 16]).takes .d ⟨7, 0x05, [0x0F, 0xF0, 16]⟩ = true ∧ number16 0x0F 0xF0 + 16 = 4096) ∧
    ((offer live .t1 0x05 [0, 0, 0]).takes .t1 ⟨7, 0x05, [0, 0, 0]⟩ = true ∧ (0 : Byte).toNat = 0) ∧
    ((offer live .t1 0x05 [0, 0, 17]).takes .t1 ⟨7, 0x05, [0, 0, 17]⟩ = true ∧ (17 : Byte).toNat > 16) ∧
    ((offer live .t1 0x05 [0x0F, 0xF1, 16]).takes .t1 ⟨7, 0x05, [0x0F, 0xF1, 16]⟩ = true ∧
      number16 0x0F 0xF1 + (16 : Byte).toNat > 4096) :=
  ⟨⟨live_takes _ _ _, rfl⟩, ⟨live_takes _ _ _, rfl⟩, ⟨live_takes _ _ _, by decide⟩, ⟨live_takes _ _ _, by decide⟩⟩

/-- The lamps below a first lamp meet whatever is asked of the lamps from it on. -/
theorem none_before (i : Lamp) (P : Lamp → Prop) (k : Lamp) (h : i.val ≤ k.val) (h' : k.val < i.val) : P k := by omega

theorem witness_BatchRefusalsNameTheirLamp :
    ((offer live .t1 0x01 [0, 0, 0]).takes .t1 ⟨7, 0x01, [0, 0, 0]⟩ = true ∧ ([] : List Byte).length = (0 : Byte).toNat ∧
      ¬ (1 ≤ (0 : Byte).toNat)) ∧
    ((offer live .t1 0x01 [0, 9, 2, 1, 4]).takes .t1 ⟨7, 0x01, [0, 9, 2, 1, 4]⟩ = true ∧
      (([1, 4] : List Byte).getD 1 0).toNat > 3 ∧ ∀ j, j < 1 → (([1, 4] : List Byte).getD j 0).toNat ≤ 3) ∧
    ((offer zoned .t2 0x01 [0, 7, 1, 3]).takes .t2 ⟨7, 0x01, [0, 7, 1, 3]⟩ = true ∧
      (∀ v ∈ ([3] : List Byte), v.toNat ≤ 3) ∧ ¬ (offer zoned .t2 0x01 [0, 7, 1, 3]).mayWrite .t2 7 = true) ∧
    ((offer live .t1 0x02 [0x10, 0, 1, 0, 0, 0, 0]).takes .t1 ⟨7, 0x02, [0x10, 0, 1, 0, 0, 0, 0]⟩ = true ∧
      ¬ number16 0x10 0 + (1 : Byte).toNat ≤ 4096) ∧
    ((offer live .t1 0x02 [0, 0, 1, 1, 1, 8, 1]).takes .t1 ⟨7, 0x02, [0, 0, 1, 1, 1, 8, 1]⟩ = true ∧
      (([1, 1, 8, 1] : List Byte).getD (4 * 0 + 2) 0).toNat > 7) ∧
    ((offer zoned .t2 0x02 [0, 0, 1, 1, 1, 7, 1]).takes .t2 ⟨7, 0x02, [0, 0, 1, 1, 1, 7, 1]⟩ = true ∧
      ¬ (offer zoned .t2 0x02 [0, 0, 1, 1, 1, 7, 1]).mayWrite .t2 0 = true) ∧
    ((offer live .t1 0x30 [0, 0, 65]).takes .t1 ⟨7, 0x30, [0, 0, 65]⟩ = true ∧ ¬ (65 : Byte).toNat ≤ 64) ∧
    ((offer zoned .t2 0x31 [0, 7, 1]).takes .t2 ⟨7, 0x31, [0, 7, 1]⟩ = true ∧
      ¬ (offer zoned .t2 0x31 [0, 7, 1]).mayWrite .t2 7 = true) ∧
    ((offer live .t1 0x30 [0, 4, 1]).takes .t1 ⟨7, 0x30, [0, 4, 1]⟩ = true ∧
      (∀ i, (offer live .t1 0x30 [0, 4, 1]).mayWrite .t1 i = true) ∧
      ¬ ((offer live .t1 0x30 [0, 4, 1]).judgedIn .t1 (.raiseAlarm .t1 7 [0, 4, 1] [])).lamps[4].attrs.alarmCapable = true) ∧
    (∀ (i : Lamp) (P : Lamp → Prop) (k : Lamp), i.val ≤ k.val → k.val < i.val → P k) :=
  ⟨⟨live_takes _ _ _, rfl, by decide⟩, ⟨live_takes _ _ _, by decide, by decide⟩,
    ⟨zoned_takes _ _ _, by decide, by decide⟩, ⟨live_takes _ _ _, by decide⟩, ⟨live_takes _ _ _, by decide⟩,
    ⟨zoned_takes _ _ _, by decide⟩, ⟨live_takes _ _ _, by decide⟩, ⟨zoned_takes _ _ _, by decide⟩,
    ⟨live_takes _ _ _, live_mayWrite _ _ _ _, by decide⟩, none_before⟩

theorem witness_DefineZoneEnablesAndRecounts :
    ((offer live .t1 0x10 (byte 63 :: bytes16 0 ++ bytes16 4096 ++ [Treatment.blink.code] ++ lampBytes (some 4095))).takes .t1
        ⟨7, 0x10, byte 63 :: bytes16 0 ++ bytes16 4096 ++ [Treatment.blink.code] ++ lampBytes (some 4095)⟩ = true ∧
      4096 ∈ [8, 16, 32, 64, 128, 256, 512, 1024, 2048, 4096] ∧ 0 ≤ 4095 ∧ 4096 ∣ 0 ∧ live.zones[63].owner = none ∧
      ∀ k : ZoneNo, live.zones[k].enabled = false) ∧
    ((offer zoned .t1 0x10 (byte 1 :: bytes16 8 ++ bytes16 8 ++ [Treatment.keep.code] ++ lampBytes none)).takes .t1
        ⟨7, 0x10, byte 1 :: bytes16 8 ++ bytes16 8 ++ [Treatment.keep.code] ++ lampBytes none⟩ = true ∧
      8 ∈ [8, 16, 32, 64, 128, 256, 512, 1024, 2048, 4096] ∧ 8 ≤ 4095 ∧ 8 ∣ 8 ∧ zoned.zones[1].owner = none ∧
      ∀ k : ZoneNo, k ≠ 1 → zoned.zones[k].enabled = true →
        ¬ (8 < zoned.zones[k].base + zoned.zones[k].size ∧ zoned.zones[k].base < 8 + 8)) :=
  ⟨⟨live_takes _ _ _, by decide⟩, ⟨zoned_takes _ _ _, by decide⟩⟩

theorem witness_DefineZoneRefusals :
    ((offer live .t1 0x10 [64, 0, 0, 0, 8, 0, 0xFF, 0xFF]).takes .t1 ⟨7, 0x10, [64, 0, 0, 0, 8, 0, 0xFF, 0xFF]⟩ = true ∧
      (64 : Byte).toNat > 63) ∧
    ((offer live .t1 0x10 [0, 0, 0, 0, 9, 0, 0xFF, 0xFF]).takes .t1 ⟨7, 0x10, [0, 0, 0, 0, 9, 0, 0xFF, 0xFF]⟩ = true ∧
      number16 0 9 ∉ [8, 16, 32, 64, 128, 256, 512, 1024, 2048, 4096]) ∧
    ((offer live .t1 0x10 [0, 0x10, 0, 0, 8, 0, 0xFF, 0xFF]).takes .t1 ⟨7, 0x10, [0, 0x10, 0, 0, 8, 0, 0xFF, 0xFF]⟩ = true ∧
      number16 0x10 0 > 4095) ∧
    ((offer live .t1 0x10 [0, 0, 8, 0, 16, 0, 0xFF, 0xFF]).takes .t1 ⟨7, 0x10, [0, 0, 8, 0, 16, 0, 0xFF, 0xFF]⟩ = true ∧
      ¬ number16 0 16 ∣ number16 0 8) ∧
    ((offer live .t1 0x10 [0, 0, 0, 0, 8, 3, 0xFF, 0xFF]).takes .t1 ⟨7, 0x10, [0, 0, 0, 0, 8, 3, 0xFF, 0xFF]⟩ = true ∧
      (3 : Byte).toNat > 2) ∧
    ((offer live .t1 0x10 [0, 0, 0, 0, 8, 0, 0x10, 0]).takes .t1 ⟨7, 0x10, [0, 0, 0, 0, 8, 0, 0x10, 0]⟩ = true ∧
      number16 0x10 0 > 4095 ∧ number16 0x10 0 ≠ 0xFFFF) ∧
    ((offer zoned .t2 0x10 [0, 0, 0, 0, 8, 2, 0x0F, 0xFF]).takes .t2 ⟨7, 0x10, [0, 0, 0, 0, 8, 2, 0x0F, 0xFF]⟩ = true ∧
      zoned.zones[0].owner = some .t1 ∧ Port.t1 ≠ .t2) ∧
    ((offer zoned .t2 0x10 [63, 0, 0, 0x10, 0, 2, 0x0F, 0xFF]).takes .t2 ⟨7, 0x10, [63, 0, 0, 0x10, 0, 2, 0x0F, 0xFF]⟩ = true ∧
      number16 0x10 0 ∈ [8, 16, 32, 64, 128, 256, 512, 1024, 2048, 4096] ∧ zoned.zones[63].owner = none ∧
      zoned.zones[0].enabled = true ∧ number16 0 0 < zoned.zones[0].base + zoned.zones[0].size ∧
      zoned.zones[0].base < number16 0 0 + number16 0x10 0) :=
  ⟨⟨live_takes _ _ _, by decide⟩, ⟨live_takes _ _ _, by decide⟩, ⟨live_takes _ _ _, by decide⟩, ⟨live_takes _ _ _, by decide⟩,
    ⟨live_takes _ _ _, by decide⟩, ⟨live_takes _ _ _, by decide⟩, ⟨zoned_takes _ _ _, by decide⟩,
    ⟨zoned_takes _ _ _, by decide⟩⟩

theorem witness_DisableAndClaimZone :
    ((offer live .t1 0x11 [64]).takes .t1 ⟨7, 0x11, [64]⟩ = true ∧ (64 : Byte).toNat > 63) ∧
    ((offer zoned .t2 0x11 [0]).takes .t2 ⟨7, 0x11, [0]⟩ = true ∧ zoned.zones[0].owner = some .t1) ∧
    ((offer live .t2 0x11 [63]).takes .t2 ⟨7, 0x11, [63]⟩ = true ∧ live.zones[63].owner = none) ∧
    ((offer live .t2 0x12 [64]).takes .t2 ⟨7, 0x12, [64]⟩ = true ∧ (64 : Byte).toNat > 63) ∧
    ((offer live .t2 0x12 [63]).takes .t2 ⟨7, 0x12, [63]⟩ = true ∧ live.zones[63].enabled = false) ∧
    ((offer { zoned with links := State.reset.links } .t1 0x12 [0]).takes .t1 ⟨7, 0x12, [0]⟩ = true ∧
      zoned.zones[0].enabled = true ∧ (State.reset.links.get .t1).state = .silent) ∧
    ((offer zoned .t2 0x12 [0]).takes .t2 ⟨7, 0x12, [0]⟩ = true ∧ zoned.zones[0].enabled = true ∧
      (zoned.links.get .t2).state = .live ∧ zoned.zones[0].owner = some .t1) ∧
    ((offer zoned .t1 0x12 [0]).takes .t1 ⟨7, 0x12, [0]⟩ = true ∧ zoned.zones[0].enabled = true ∧
      (zoned.links.get .t1).state = .live ∧ zoned.zones[0].owner = some .t1) := by decide

theorem witness_ReleaseZoneAndMarkCurrent :
    ((offer live .t1 0x13 [64]).takes .t1 ⟨7, 0x13, [64]⟩ = true ∧ (64 : Byte).toNat > 63) ∧
    ((offer zoned .t2 0x13 [0]).takes .t2 ⟨7, 0x13, [0]⟩ = true ∧ zoned.zones[0].owner = some .t1) ∧
    ((offer live .t2 0x13 [63]).takes .t2 ⟨7, 0x13, [63]⟩ = true ∧ live.zones[63].owner = none) ∧
    ((offer live .t1 0x14 [64]).takes .t1 ⟨7, 0x14, [64]⟩ = true ∧ (64 : Byte).toNat > 63) ∧
    ((offer live .t1 0x14 [63]).takes .t1 ⟨7, 0x14, [63]⟩ = true ∧ live.zones[63].owner ≠ some .t1) ∧
    ((offer zoned .t1 0x14 [0]).takes .t1 ⟨7, 0x14, [0]⟩ = true ∧ zoned.zones[0].owner = some .t1) := by decide

theorem witness_ReadingCommandsReportAndChangeNothing :
    (offer live .d 0x20 []).takes .d ⟨7, 0x20, []⟩ = true ∧ (offer live .t1 0x23 []).takes .t1 ⟨7, 0x23, []⟩ = true ∧
    (offer live .t2 0x15 [byte 63]).takes .t2 ⟨7, 0x15, [byte 63]⟩ = true ∧
    ((offer live .t2 0x15 [64]).takes .t2 ⟨7, 0x15, [64]⟩ = true ∧ (64 : Byte).toNat > 63) ∧
    (offer live .d 0x52 []).takes .d ⟨7, 0x52, []⟩ = true ∧ (offer live .d 0x93 []).takes .d ⟨7, 0x93, []⟩ = true := by decide

theorem witness_TimeoutAndAllowanceAreClamped :
    (offer live .d 0x21 [0, 0]).takes .d ⟨7, 0x21, [0, 0]⟩ = true ∧
    (offer live .t1 0x21 [0xFF, 0xFF]).takes .t1 ⟨7, 0x21, [0xFF, 0xFF]⟩ = true ∧
    (offer live .t2 0x22 [0]).takes .t2 ⟨7, 0x22, [0]⟩ = true ∧ (offer live .d 0x22 [255]).takes .d ⟨7, 0x22, [255]⟩ = true := by
  decide

theorem witness_HandoverIsPostedAndTaken :
    (offer live .t1 0x24 [0xFF, 0xFF]).takes .t1 ⟨7, 0x24, [0xFF, 0xFF]⟩ = true ∧
    (offer .reset .t2 0x24 [0, 0]).takes .t2 ⟨7, 0x24, [0, 0]⟩ = true ∧
    (offer live .t1 0x25 []).takes .t1 ⟨7, 0x25, []⟩ = true := by decide

theorem witness_SilenceTimerExpirySpendsOrLapses : zoned.resetAsserted = false ∧ (zoned.links.get .t1).timer.isSome = true ∧
    (zoned.links.get .t1).state = .live ∧ (zoned.links.get .t1).allowance ≤ 0 ∧
    ({ live with links := .all ⟨.live, some 50, 50, 1, false⟩ } : State).resetAsserted = false ∧
    ¬ (1 : Int) ≤ 0 := by decide

/-- A port whose queues are both full. -/
def full : State := { live with ports := .all { PortState.reset with
  commands := List.replicate 8 ⟨0, 0x20, []⟩, replies := List.replicate 8 ⟨0, 0x20, .done, []⟩ } }

theorem witness_ValidFrameIsQueuedAndKeepsTheLink :
    (State.reset.resetAsserted = false ∧ (State.reset.ports.get .t1).inBreak = false ∧ (List.replicate 72 (0 : Byte)).length ≤ 72 ∧
      (State.reset.ports.get .t1).rx.within ⟨1, 0x20, List.replicate 72 0⟩ = true ∧
      (State.reset.ports.get .t1).commands.length < 8) ∧
    (full.resetAsserted = false ∧ (full.ports.get .d).inBreak = false ∧ (full.ports.get .d).rx.within ⟨1, 0x20, []⟩ = true ∧
      ¬ (full.ports.get .d).commands.length < 8 ∧ ¬ (full.ports.get .d).replies.length < 8) := by decide

theorem witness_RaiseAlarmEntersNew : (offer zoned .t1 0x30 [0, 0, 4]).takes .t1 ⟨7, 0x30, [0, 0, 4]⟩ = true ∧
    (∀ i ∈ lampsFrom (number16 0 0) (4 : Byte).toNat, (offer zoned .t1 0x30 [0, 0, 4]).mayWrite .t1 i = true ∧
      ((offer zoned .t1 0x30 [0, 0, 4]).judgedIn .t1 (.raiseAlarm .t1 7 [0, 0, 4] [])).lamps[i].attrs.alarmCapable = true) ∧
    ((offer zoned .t1 0x30 [0, 0, 4]).judgedIn .t1 (.raiseAlarm .t1 7 [0, 0, 4] [])).passes .t1 .alarm 0 3 :=
  ⟨zoned_takes _ _ _,
    fun i h => Bool.and_eq_true_iff.mp (List.all_eq_true.mp
      (show (lampsFrom (number16 0 0) (4 : Byte).toNat).all (fun i => (offer zoned .t1 0x30 [0, 0, 4]).mayWrite .t1 i &&
        ((offer zoned .t1 0x30 [0, 0, 4]).judgedIn .t1 (.raiseAlarm .t1 7 [0, 0, 4] [])).lamps[i].attrs.alarmCapable) = true
        from by decide) i h),
    zoned_passes _ _ _ _ _ _ _ _⟩

theorem witness_ClearAlarmLeavesUnacknowledgedReturned :
    (offer zoned .t1 0x31 [0, 0, 4]).takes .t1 ⟨7, 0x31, [0, 0, 4]⟩ = true ∧
    (∀ i ∈ lampsFrom (number16 0 0) (4 : Byte).toNat, (offer zoned .t1 0x31 [0, 0, 4]).mayWrite .t1 i = true ∧
      ((offer zoned .t1 0x31 [0, 0, 4]).judgedIn .t1 (.clearAlarm .t1 7 [0, 0, 4] [])).lamps[i].attrs.alarmCapable = true) ∧
    ((offer zoned .t1 0x31 [0, 0, 4]).judgedIn .t1 (.clearAlarm .t1 7 [0, 0, 4] [])).passes .t1 .alarm 0 3 :=
  ⟨zoned_takes _ _ _,
    fun i h => Bool.and_eq_true_iff.mp (List.all_eq_true.mp
      (show (lampsFrom (number16 0 0) (4 : Byte).toNat).all (fun i => (offer zoned .t1 0x31 [0, 0, 4]).mayWrite .t1 i &&
        ((offer zoned .t1 0x31 [0, 0, 4]).judgedIn .t1 (.clearAlarm .t1 7 [0, 0, 4] [])).lamps[i].attrs.alarmCapable) = true
        from by decide) i h),
    zoned_passes _ _ _ _ _ _ _ _⟩

theorem witness_AcknowledgeInEveryScope :
    ((offer zoned .t1 0x32 [1, 0, 1, 1]).takes .t1 ⟨7, 0x32, [1, 0, 1, 1]⟩ = true ∧
      (∀ i ∈ lampsFrom (number16 0 1) (1 : Byte).toNat, (offer zoned .t1 0x32 [1, 0, 1, 1]).mayWrite .t1 i = true) ∧
      ((offer zoned .t1 0x32 [1, 0, 1, 1]).judgedIn .t1 (.acknowledge .t1 7 [1, 0, 1, 1] [])).passes .t1 .ack 1 1) ∧
    ((offer live .t1 0x32 [1, 0, 0, 0]).takes .t1 ⟨7, 0x32, [1, 0, 0, 0]⟩ = true ∧ (0 : Byte).toNat = 0) ∧
    ((offer live .d 0x32 [1, 0x0F, 0xFF, 2]).takes .d ⟨7, 0x32, [1, 0x0F, 0xFF, 2]⟩ = true ∧
      number16 0x0F 0xFF + (2 : Byte).toNat > 4096) ∧
    ((offer zoned .t2 0x32 [1, 0, 7, 1]).takes .t2 ⟨7, 0x32, [1, 0, 7, 1]⟩ = true ∧
      (offer zoned .t2 0x32 [1, 0, 7, 1]).mayWrite .t2 7 = false ∧ 7 ∈ lampsFrom (number16 0 7) (1 : Byte).toNat ∧
      ∀ k ∈ lampsFrom (number16 0 7) (1 : Byte).toNat, k < 7 → (offer zoned .t2 0x32 [1, 0, 7, 1]).mayWrite .t2 k = true) ∧
    ((offer live .d 0x32 [2, 64]).takes .d ⟨7, 0x32, [2, 64]⟩ = true ∧ (64 : Byte).toNat > 63) ∧
    ((offer live .d 0x32 [2, 63]).takes .d ⟨7, 0x32, [2, 63]⟩ = true ∧ live.zones[63].enabled = false) ∧
    ((offer zoned .t2 0x32 [2, 0]).takes .t2 ⟨7, 0x32, [2, 0]⟩ = true ∧ zoned.zones[0].enabled = true ∧
      zoned.zones[0].owner ≠ some .t2) ∧
    ((offer zoned .t1 0x32 [2, 0]).takes .t1 ⟨7, 0x32, [2, 0]⟩ = true ∧ zoned.zones[0].enabled = true ∧
      zoned.zones[0].owner = some .t1 ∧
      ((offer zoned .t1 0x32 [2, 0]).judgedIn .t1 (.acknowledge .t1 7 [2, 0] [])).passes .t1 .ack 0 7) ∧
    ((offer zoned .d 0x32 [0x03]).takes .d ⟨7, 0x32, [0x03]⟩ = true ∧
      ((offer zoned .d 0x32 [0x03]).judgedIn .d (.acknowledge .d 7 [0x03] [])).passes .d .ack 0 4095) ∧
    ((offer live .t1 0x32 [0, 1, 2, 3]).takes .t1 ⟨7, 0x32, [0, 1, 2, 3]⟩ = true ∧
      (offer live .t1 0x32 [4, 1]).takes .t1 ⟨7, 0x32, [4, 1]⟩ = true ∧
      (offer live .d 0x32 [255]).takes .d ⟨7, 0x32, [255]⟩ = true) :=
  ⟨⟨zoned_takes _ _ _, List.all_eq_true.mp (by decide), zoned_passes _ _ _ _ _ _ _ _⟩, ⟨live_takes _ _ _, rfl⟩, ⟨live_takes _ _ _, by decide⟩,
    ⟨zoned_takes _ _ _, by decide, by decide, fun k h hk => (by
      rw [show lampsFrom (number16 0 7) (1 : Byte).toNat = [7] from by decide, List.mem_singleton] at h
      exact absurd hk (by rw [h]; decide))⟩, ⟨live_takes _ _ _, by decide⟩, ⟨live_takes _ _ _, by decide⟩,
    ⟨zoned_takes _ _ _, by decide, by decide⟩, ⟨zoned_takes _ _ _, rfl, rfl, zoned_passes _ _ _ _ _ _ _ _⟩,
    ⟨zoned_takes _ _ _, zoned_passes _ _ _ _ _ _ _ _⟩, ⟨live_takes _ _ _, live_takes _ _ _, live_takes _ _ _⟩⟩

theorem witness_HornIsSettledAndSilenced :
    (offer { zoned with horn := .sounding } .d 0x33 []).takes .d ⟨7, 0x33, []⟩ = true := by decide

theorem witness_ScanIsStartedAndStopped :
    ((offer live .t1 0x40 []).takes .t1 ⟨7, 0x40, []⟩ = true ∧ live.scan = .dark) ∧
    ((offer running .t2 0x40 []).takes .t2 ⟨7, 0x40, []⟩ = true ∧ running.scan = .running) ∧
    (offer live .t1 0x41 []).takes .t1 ⟨7, 0x41, []⟩ = true ∧ (offer running .t2 0x41 []).takes .t2 ⟨7, 0x41, []⟩ = true := by
  decide

theorem witness_LevelsAndTimingAreSet :
    (offer live .d 0x42 (0 :: 15 :: (Vector.replicate 8 (255 : Byte)).toList)).takes .d
      ⟨7, 0x42, 0 :: 15 :: (Vector.replicate 8 255).toList⟩ = true ∧
    (offer live .t1 0x43 [4, 19, 3, 0, 4]).takes .t1 ⟨7, 0x43, [4, 19, 3, 0, 4]⟩ = true ∧
    (offer running .t1 0x43 [41, 201, 51, 21, 121]).takes .t1 ⟨7, 0x43, [41, 201, 51, 21, 121]⟩ = true :=
  ⟨live_takes _ _ _, live_takes _ _ _, running_takes _ _ _⟩

/-- A board held by T1. -/
def held : State := { running with hold := .held .t1 9 5 }

theorem witness_HoldIsTakenReleasedAndExpires :
    ((offer live .d 0x44 []).takes .d ⟨7, 0x44, []⟩ = true ∧ live.scan = .dark) ∧
    ((offer { running with links := State.reset.links } .d 0x44 []).takes .d ⟨7, 0x44, []⟩ = true ∧
      (State.reset.links.get .d).state = .silent) ∧
    ((offer running .d 0x44 []).takes .d ⟨7, 0x44, []⟩ = true ∧ running.hold = .free ∧ (running.links.get .d).state = .live) ∧
    ((offer held .t1 0x44 []).takes .t1 ⟨7, 0x44, []⟩ = true ∧ held.hold = .held .t1 9 5) ∧
    (offer held .d 0x44 []).takes .d ⟨7, 0x44, []⟩ = true ∧
    (offer running .t2 0x45 []).takes .t2 ⟨7, 0x45, []⟩ = true ∧ (offer held .t1 0x45 []).takes .t1 ⟨7, 0x45, []⟩ = true ∧
    (offer held .d 0x45 []).takes .d ⟨7, 0x45, []⟩ = true ∧ (offer held .t2 0x45 []).takes .t2 ⟨7, 0x45, []⟩ = true ∧
    (held.resetAsserted = false ∧ held.hold ≠ .free) := by decide

theorem witness_LampTestSessionsStartAndEnd :
    ((offer live .d 0x46 []).takes .d ⟨7, 0x46, []⟩ = true ∧ live.scan = .dark) ∧
    ((offer running .d 0x46 []).takes .d ⟨7, 0x46, []⟩ = true ∧ running.session = .off) ∧
    (offer { running with session := .on .pin 30 } .d 0x46 []).takes .d ⟨7, 0x46, []⟩ = true ∧
    (offer running .d 0x47 []).takes .d ⟨7, 0x47, []⟩ = true ∧
    ((offer { running with session := .on .pin 30 } .d 0x47 []).takes .d ⟨7, 0x47, []⟩ = true ∧ Session.on .pin 30 ≠ .off) ∧
    (running.resetAsserted = false ∧ running.testInput = false ∧ running.scan = .running ∧ running.session = .off) ∧
    (live.resetAsserted = false ∧ live.testInput = false ∧ live.scan = .dark) ∧
    (({ running with testInput := true, session := .on .pin 30 } : State).testInput = true ∧
      ({ running with testInput := true, session := .on .pin 30 } : State).session = .on .pin 30) ∧
    (({ live with testInput := true } : State).testInput = true ∧ live.session = .off) := by decide

theorem witness_PhaseAdvanceAtFrameStart :
    (running.resetAsserted = false ∧ running.scan = .running ∧ running.progress = .answering [] ∧ running.pendingTiming = none) ∧
    ({ running with pendingTiming := some ⟨5, 100, 4⟩ } : State).pendingTiming = some ⟨5, 100, 4⟩ ∧
    ((offer live .t1 0x40 []).takes .t1 ⟨7, 0x40, []⟩ = true ∧ live.scan = .dark) := by decide

theorem witness_FrameStartDrawsThePicture :
    (running.resetAsserted = false ∧ running.scan = .running ∧ running.progress = .answering []) ∧
    running.hold = .free ∧ held.hold ≠ .free ∧
    (running.setString 0 ⟨1, some 0, .intact, 1⟩).strings[(0 : StringNo)].pending = some 0 := by decide

theorem witness_AspectPrecedenceAndLevels :
    LampRecord.suspectDefaults.suspect = true ∧ LampRecord.reset.override = none ∧ LampRecord.reset.alarm = .normal ∧
    (alarmLamp .new).alarm = .new ∧ (alarmLamp .standing).alarm = .standing ∧ (alarmLamp .returned).alarm = .returned ∧
    ((zoned.setZone 0 ⟨true, 0, 8, some .t1, false, .dim, some 9, 1, 0⟩).zones[0].summary.map Fin.val = some 9) ∧
    (({ zoned with zones := zoned.zones.set 0 ⟨true, 0, 8, none, true, .dim, none, 0, 0⟩ } : State).zoneOf 7 = some 0) ∧
    zoned.zoneOf 8 = none := by decide

theorem witness_SubFramesDriveTheLamps :
    (({ running with progress := .driving 15 } : State).resetAsserted = false ∧
      ({ running with progress := .driving 15 } : State).progress = .driving 15 ∧ 15 < 16) ∧
    ({ running with progress := .driving 16 } : State).progress = .driving 16 ∧
    (15 : StringNo).val = (4095 : Lamp).val / 256 := by decide

theorem witness_ChainAnswerDecidesTheString :
    ({ running with progress := .answering [0] } : State).resetAsserted = false ∧
    ({ running with progress := .answering [0] } : State).progress = .answering [0] ∧ (0 : StringNo) ∈ [(0 : StringNo)] ∧
    min 63 1 = running.strings[0].count ∧ min 63 64 ≠ running.strings[0].count := by decide

theorem witness_DeliveryJudgesEachLamp :
    (256 * (0 : StringNo).val ≤ (7 : Lamp).val ∧ (7 : Lamp).val < 256 * (0 : StringNo).val + 8 * running.strings[0].count) ∧
    ¬ (8 : Lamp).val < 256 * (0 : StringNo).val + 8 * running.strings[0].count := by decide

theorem witness_ObservationKinds : (0 ≤ 16 ∧ false = false) ∧ (1 ≤ 1 ∧ 1 ≤ 15) ∧ (1 ≤ 15 ∧ 15 ≤ 15) ∧ 16 ≤ 16 := by decide

theorem witness_ModuleCountsAreSetAndPutInForce :
    ((offer live .t1 0x50 [16, 1]).takes .t1 ⟨7, 0x50, [16, 1]⟩ = true ∧ (16 : Byte).toNat > 15) ∧
    ((offer live .t1 0x50 [15, 33]).takes .t1 ⟨7, 0x50, [15, 33]⟩ = true ∧ live.scan = .dark ∧ (15 : StringNo).val = (15 : Byte).toNat) ∧
    ((offer running .t1 0x50 [0, 0]).takes .t1 ⟨7, 0x50, [0, 0]⟩ = true ∧ running.scan = .running) ∧
    (256 * (0 : StringNo).val + 8 * 0 ≤ (0 : Lamp).val ∧
      (0 : Lamp).val < 256 * (0 : StringNo).val + 8 * running.strings[0].count) := by decide

theorem witness_SupervisionThresholds :
    (offer live .d 0x51 [0, 16]).takes .d ⟨7, 0x51, [0, 16]⟩ = true ∧
    (offer live .t1 0x51 [0, 16]).takes .t1 ⟨7, 0x51, [0, 16]⟩ = true := by decide

/-- The entries of 64 lamps. -/
def crowded : State :=
  { live with failures := (List.finRange 64).map fun k => ⟨⟨k.val, by omega⟩, .opened, 0, false, false⟩ }

theorem witness_FailureListIsKeptAndTaken :
    (∃ e ∈ faulty.failures, e.lamp = 300) ∧
    ((∀ e ∈ faulty.failures, e.lamp ≠ 301) ∧ faulty.failures.length < 64) ∧
    ((∀ e ∈ crowded.failures, e.lamp ≠ 64) ∧ 64 ≤ crowded.failures.length) ∧
    ((crowded.failures.map FailureEntry.lamp).Nodup ∧ (offer crowded .d 0x60 [16]).takes .d ⟨7, 0x60, [16]⟩ = true ∧
      (offer crowded .d 0x60 [17]).takes .d ⟨7, 0x60, [17]⟩ = true ∧ (offer crowded .d 0x60 [0]).takes .d ⟨7, 0x60, [0]⟩ = true) := by
  decide +kernel

theorem witness_CheckingReadsAndFaultReports :
    live.lamps[0].integrity = .clean ∧ (live.land [⟨3, false⟩]).lamps[3].integrity = .single ∧
    (live.land [⟨3, true⟩]).lamps[3].integrity = .double ∧
    live.fault.mask.has .corrected = true ∧ (live.fault.mask.has .chain = false ∧ live.fault.flags.any = false) ∧
    (faulty.fault.mask.has .chain = false ∧ faulty.fault.flags.any = true) := by decide

theorem witness_FaultRecordIsReadReleasedAndMasked :
    (offer faulty .d 0x61 []).takes .d ⟨7, 0x61, []⟩ = true ∧ (offer faulty .t2 0x62 [0xFF]).takes .t2 ⟨7, 0x62, [0xFF]⟩ = true ∧
    (offer faulty .t1 0x63 [8]).takes .t1 ⟨7, 0x63, [8]⟩ = true := by decide

theorem witness_WatchWindowsAreSetReadAndReleased :
    (offer live .t1 0x70 [3, 0, 0, 0x0F, 0xFF, 7, 31, 1]).takes .t1 ⟨7, 0x70, [3, 0, 0, 0x0F, 0xFF, 7, 31, 1]⟩ = true ∧
    ((offer live .t1 0x70 [4, 0, 0, 0x0F, 0xFF, 7, 31, 1]).takes .t1 ⟨7, 0x70, [4, 0, 0, 0x0F, 0xFF, 7, 31, 1]⟩ = true ∧
      (4 : Byte).toNat > 3) ∧
    ((offer live .t1 0x70 [3, 0, 0, 0x0F, 0xFF, 7, 31, 2]).takes .t1 ⟨7, 0x70, [3, 0, 0, 0x0F, 0xFF, 7, 31, 2]⟩ = true ∧
      (2 : Byte).toNat > 1) ∧
    (offer live .d 0x71 []).takes .d ⟨7, 0x71, []⟩ = true ∧ (offer live .d 0x72 []).takes .d ⟨7, 0x72, []⟩ = true := by decide

/-- The board of `zoned` under a BLOCK window over every lamp, for every port and kind. -/
def guarded : State :=
  { zoned with
    windows := zoned.windows.set 3 ⟨0, 4095, ⟨true, true, true⟩, ⟨true, true, true, true, true⟩, .block⟩ }

theorem guarded_takes (p : Port) (code : Byte) (payload : List Byte) :
    (offer guarded p code payload).takes p ⟨7, code, payload⟩ = true := offer_takes _ _ _ _ rfl rfl rfl

theorem guarded_matches (p q : Port) (code : Byte) (payload : List Byte) (c : Instr) (k : WatchKind) (low high : Nat) :
    ((offer guarded q code payload).judgedIn p c).matches p k low high = guarded.matches p k low high := by
  simp only [State.matches, judgedIn_windows]
  rfl

/-- The same window with action RECORD. -/
def recording : State :=
  { live with
    windows := live.windows.set 3 ⟨4, 7, ⟨true, false, false⟩, ⟨true, false, false, false, false⟩, .record⟩ }

theorem witness_WatchCheckBlocksOrRecords :
    live.matches .t1 .aspect 0 4095 = [] ∧ blocking.matches .t1 .aspect 2 4095 = [(3, 4)] ∧
    blocking.windows[(3 : WindowNo)].action = .block ∧
    (recording.matches .t1 .aspect 2 4095 = [(3, 4)] ∧ recording.windows[(3 : WindowNo)].action = .record) ∧
    live.capture.hit = none ∧ ({ live with capture := ⟨some ⟨0, .t1, 1, 0, .aspect, 4, false, 1⟩, false⟩ } : State).capture.hit ≠ none := by
  decide

theorem witness_WatchCheckBlocksOrRecords_commands :
    ((offer guarded .t1 0x01 [0, 7, 1, 3]).takes .t1 ⟨7, 0x01, [0, 7, 1, 3]⟩ = true ∧
      (offer guarded .t1 0x01 [0, 7, 1, 3]).mayWrite .t1 7 = true ∧
      ((offer guarded .t1 0x01 [0, 7, 1, 3]).judgedIn .t1 (.writeAspects .t1 7 [0, 7, 1, 3] [])).matches .t1 .aspect 7 7 =
        [(3, 7)] ∧ guarded.windows[(3 : WindowNo)].action = .block) ∧
    ((offer guarded .t1 0x02 [0, 0, 1, 0, 0, 7, 1]).takes .t1 ⟨7, 0x02, [0, 0, 1, 0, 0, 7, 1]⟩ = true ∧
      ((offer guarded .t1 0x02 [0, 0, 1, 0, 0, 7, 1]).judgedIn .t1
        (.setAttributes .t1 7 [0, 0, 1, 0, 0, 7, 1] [])).matches .t1 .attributes 0 0 = [(3, 0)]) ∧
    ((offer guarded .t1 0x30 [0, 3, 1]).takes .t1 ⟨7, 0x30, [0, 3, 1]⟩ = true ∧
      ((offer guarded .t1 0x30 [0, 3, 1]).judgedIn .t1 (.raiseAlarm .t1 7 [0, 3, 1] [])).lamps[3].attrs.alarmCapable = true ∧
      ((offer guarded .t1 0x30 [0, 3, 1]).judgedIn .t1 (.raiseAlarm .t1 7 [0, 3, 1] [])).matches .t1 .alarm 3 3 = [(3, 3)]) ∧
    ((offer guarded .t1 0x31 [0, 1, 1]).takes .t1 ⟨7, 0x31, [0, 1, 1]⟩ = true ∧
      ((offer guarded .t1 0x31 [0, 1, 1]).judgedIn .t1 (.clearAlarm .t1 7 [0, 1, 1] [])).matches .t1 .alarm 1 1 = [(3, 1)]) ∧
    ((offer guarded .d 0x32 [1, 0, 1, 1]).takes .d ⟨7, 0x32, [1, 0, 1, 1]⟩ = true ∧
      ((offer guarded .d 0x32 [1, 0, 1, 1]).judgedIn .d (.acknowledge .d 7 [1, 0, 1, 1] [])).matches .d .ack 1 1 =
        [(3, 1)]) ∧
    ((offer guarded .t1 0x32 [2, 0]).takes .t1 ⟨7, 0x32, [2, 0]⟩ = true ∧ guarded.zones[(0 : ZoneNo)].owner = some .t1 ∧
      ((offer guarded .t1 0x32 [2, 0]).judgedIn .t1 (.acknowledge .t1 7 [2, 0] [])).matches .t1 .ack 0 7 = [(3, 0)]) ∧
    ((offer guarded .d 0x32 [3]).takes .d ⟨7, 0x32, [3]⟩ = true ∧
      ((offer guarded .d 0x32 [3]).judgedIn .d (.acknowledge .d 7 [3] [])).matches .d .ack 0 4095 = [(3, 0)]) ∧
    ((offer guarded .d 0x03 [0x0F, 0xFF, 3]).takes .d ⟨7, 0x03, [0x0F, 0xFF, 3]⟩ = true ∧
      ((offer guarded .d 0x03 [0x0F, 0xFF, 3]).judgedIn .d (.forceLamp .d 7 [0x0F, 0xFF, 3] [])).matches .d .override 4095 4095 =
        [(3, 4095)]) ∧
    ((offer guarded .d 0x04 [0, 0]).takes .d ⟨7, 0x04, [0, 0]⟩ = true ∧
      ((offer guarded .d 0x04 [0, 0]).judgedIn .d (.unforce .d 7 [0, 0] [])).matches .d .override 0 0 = [(3, 0)]) ∧
    ((offer guarded .d 0x04 [0xFF, 0xFF]).takes .d ⟨7, 0x04, [0xFF, 0xFF]⟩ = true ∧
      ((offer guarded .d 0x04 [0xFF, 0xFF]).judgedIn .d (.unforce .d 7 [0xFF, 0xFF] [])).matches .d .override 0 4095 =
        [(3, 0)]) := by
  simp only [guarded_matches, guarded_takes]
  decide

theorem witness_ArbitrationModeIsSet :
    (offer live .d 0x80 [0]).takes .d ⟨7, 0x80, [0]⟩ = true ∧
    ((offer live .t1 0x80 [2]).takes .t1 ⟨7, 0x80, [2]⟩ = true ∧ (2 : Byte).toNat > 1) ∧
    ((offer live .t1 0x80 [1]).takes .t1 ⟨7, 0x80, [1]⟩ = true ∧ (offer live .t1 0x80 [0]).takes .t1 ⟨7, 0x80, [0]⟩ = true) := by
  decide

theorem witness_NoticesAreRoutedAndEventsCounted :
    (offer live .d 0x90 [byte (NoticeKind.test.index.val + 1), 7]).takes .d ⟨7, 0x90, [byte (NoticeKind.test.index.val + 1), 7]⟩ = true ∧
    ((offer live .d 0x90 [byte (NoticeKind.alarm.index.val + 1), 8]).takes .d
      ⟨7, 0x90, [byte (NoticeKind.alarm.index.val + 1), 8]⟩ = true ∧ (8 : Byte).toNat > 7) ∧
    ((offer live .d 0x90 [0, 1]).takes .d ⟨7, 0x90, [0, 1]⟩ = true ∧ (offer live .d 0x90 [11, 1]).takes .d ⟨7, 0x90, [11, 1]⟩ = true) ∧
    (offer live .d 0x91 []).takes .d ⟨7, 0x91, []⟩ = true ∧
    ((offer live .t1 0x92 [3, 9, 7, 63, 1]).takes .t1 ⟨7, 0x92, [3, 9, 7, 63, 1]⟩ = true ∧ (3 : Byte).toNat = (3 : CounterNo).val ∧
      (9 : Byte) = CounterEvent.watchHits.code ∧ (63 : Byte) = ((some (63 : ZoneNo)).elim 0xFF fun y => byte y.val) ∧
      (1 : Byte) = CounterMode.stick.code) ∧
    ((offer live .t1 0x92 [4, 1, 7, 255, 0]).takes .t1 ⟨7, 0x92, [4, 1, 7, 255, 0]⟩ = true ∧ (4 : Byte).toNat > 3) ∧
    ((offer live .t1 0x92 [0, 10, 7, 64, 0]).takes .t1 ⟨7, 0x92, [0, 10, 7, 64, 0]⟩ = true ∧ (10 : Byte).toNat > 9 ∧
      (64 : Byte).toNat > 63 ∧ (64 : Byte).toNat ≠ 255) := by decide

theorem witness_ReceiverReadsEveryFrameBack :
    ∀ f ∈ [(([0, 0x5A] : List Byte), (⟨1, 0x20, []⟩ : Command)), ([], ⟨0xA5, 0x01, List.replicate 72 0xA5⟩)],
      (∀ b ∈ f.1, b ≠ 0xA5) ∧ f.2.payload.length ≤ 72 := by decide

theorem witness_BytesAndDiscards :
    (live.resetAsserted = false ∧ (live.ports.get .t1).inBreak = false) ∧
    (Receiver.take ⟨.length, [], true⟩ 73 false).2.head? = some .discard ∧
    (⟨.length, [], true⟩ : Receiver).phase ≠ .hunt ∧ (73 : Byte).toNat > 72 ∧ (72 : Byte).toNat ≤ 72 ∧
    (([1, 2] : List Byte) ++ [3] = 1 :: [2, 3] ∧ [2, 3].length < (1 : Byte).toNat + 2) ∧
    (([1, 2, 3] : List Byte) ++ [4] = 1 :: [2, 3, 4] ∧ (1 : Byte).toNat + 2 ≤ [2, 3, 4].length ∧
      [2, 3, 4].length < (1 : Byte).toNat + 4) ∧
    (([0, 1, 2, 0] : List Byte) ++ [0] = 0 :: [1, 2, 0, 0] ∧ [1, 2, 0, 0].length = (0 : Byte).toNat + 4 ∧
      frameOf? [0, 1, 2, 0, 0] = none) := by decide +kernel

theorem witness_PortResetAndTransmitter :
    (({ live with ports := .all { PortState.reset with inBreak := true } } : State).ports.get .t1).inBreak = true ∧
    live.resetAsserted = false ∧ (live.ports.get .t1).inBreak = false ∧ (live.ports.get .t1).rx.phase = .hunt ∧
    ((PerPort.all { PortState.reset with rx := ⟨.body, [1], true⟩ }).get .t1).rx.phase ≠ .hunt ∧
    ((PerPort.all { PortState.reset with replies := [⟨7, 0x20, .done, []⟩] }).get .d).replies = [⟨7, 0x20, .done, []⟩] ∧
    ((PerPort.all { PortState.reset with replies := [⟨7, 0x20, .done, []⟩] }).get .d).sending = none := by decide

end Sys2Proof.Tests
end

section
/-! SUPPORT. What port reset, STOP SCAN and the taking of a command leave unchanged. -/

namespace Sys2Proof.Machine

/-- Any view of the state that landing the upsets, taking the command out of its queue, judging it and concluding it
all keep is kept by the whole taking. -/
theorem State.executes_keeps {α β : Type} (view : State → β) {s : State} {p : Port} {c : Command}
    {upsets : List Upset} {parse : List Byte → Option α} {zone : State → α → Option ZoneNo}
    {judge : State → α → State × Answer} (land : view (s.land upsets) = view s)
    (takeHead : ∀ t : State, view (t.takeHead p) = view t) (judged : ∀ t a, view (judge t a).1 = view t)
    (conclude : ∀ (t : State) z a, view (t.conclude p c z a) = view t) :
    view (s.executes p c upsets parse zone judge) = view s := by
  have taken : view ((s.land upsets).takeHead p) = view s := by rw [takeHead, land]
  cases ht : s.takes p c with
  | false => rw [executes_not_taken _ _ _ _ ht]
  | true =>
    cases hp : parse c.payload with
    | none => rw [executes_length _ _ _ ht hp, conclude, taken]
    | some a => rw [executes_judged _ _ _ ht hp, conclude, judged, taken]

@[simp] theorem State.conclude_lamps (s : State) (p : Port) (c : Command) (z : Option ZoneNo) (a : Answer) :
    (s.conclude p c z a).lamps = s.lamps := rfl

/-- STOP SCAN in RUNNING changes only the scan, the frame in progress, the outputs, the hold, the session and the
pending sets (R83). -/
theorem State.stopScan_frame (s : State) :
    s.stopScan = { s with
      scan := .dark, nextFrame := none, progress := .none, latched := Vector.replicate 16 []
      hold := .free, session := .off, notices := s.stopScan.notices } := by
  unfold stopScan
  by_cases held : s.hold = .free <;> by_cases tested : s.session = .off <;> simp only [held, tested, if_true, if_false]
  · rw [endSession, ← held]; rfl
  · rw [endHold, ← tested]; rfl
  · rfl

/-- Judging STOP SCAN leaves the state as it is, or takes a RUNNING board to DARK (R83). -/
theorem judgeStopScan_cases (p : Port) (s : State) (u : Unit) :
    (judgeStopScan p s u).1 = s ∨ (judgeStopScan p s u).1 = s.stopScan := by
  unfold judgeStopScan
  cases telemetryOnly p with
  | some refusal => exact .inl rfl
  | none => cases s.scan with
    | dark => exact .inl rfl
    | running => exact .inr rfl

theorem judgeStopScan_lamps (p : Port) (s : State) (u : Unit) : (judgeStopScan p s u).1.lamps = s.lamps := by
  obtain h | h := judgeStopScan_cases p s u
  · rw [h]
  · rw [h, State.stopScan_frame]

theorem exec_stopScan_lamps (p : Port) (tag : Byte) (payload : List Byte) (s : State) :
    ∃ t, exec (.stopScan p tag payload) s = .next t ∧ t.lamps = s.lamps :=
  ⟨_, rfl, State.executes_keeps State.lamps rfl (State.takeHead_lamps · p) (judgeStopScan_lamps p)
    (State.conclude_lamps · p _)⟩

/-- A port reset changes at most its port, and the counters by the discard it may bring about (R157). -/
theorem exec_portReset_frame (p : Port) (s : State) :
    ∃ t, exec (.portReset p) s = .next t ∧ t = { s with ports := t.ports, counters := t.counters } := by
  refine ⟨_, rfl, ?_⟩
  cases s.receiving p with
  | false => rfl
  | true =>
    simp only [if_true]
    split
    · rfl
    · rfl

/-! ### The board image (chapter 1) -/

/-- Settles O4: the bank of `State.reset` is `LampRecord.reset` throughout, and neither port reset nor STOP SCAN has the
bank among the fields it changes. -/
theorem powerUpLampRecords : Obligations.PowerUpLampRecords := by
  refine ⟨?powerUp, ?portReset, exec_stopScan_lamps⟩
  case powerUp =>
    intro rate1 rate0 lampTest s
    refine ⟨_, rfl, fun i => ?_⟩
    show (Vector.replicate 4096 LampRecord.reset)[i.val] = _
    rw [Vector.getElem_replicate]
    rfl
  case portReset =>
    intro p s
    obtain ⟨t, ht, frame⟩ := exec_portReset_frame p s
    exact ⟨t, ht, by rw [frame]⟩

end Sys2Proof.Machine
end

section
/-! SUPPORT. What an observation of a lamp is and does, and what sets the thresholds that govern it. -/

namespace Sys2Proof.Machine

/-! ### The kind of an observation (R114) -/

/-- A lamp with drive count 0 can only show whether it is stuck. -/
theorem classify_neverDriven (o : Sensed) :
    classify 0 o = if o.undriven then .stuckMismatch else .neutral := by
  simp [classify]

/-- Between the two ends, current while undriven decides before current while driven does. -/
theorem classify_partlyDriven {d : Nat} (low : 1 ≤ d) (high : d ≤ 15) (o : Sensed) :
    classify d o = if o.undriven then .stuckMismatch else if o.driven then .healthy else .openMismatch := by
  simp [classify, low, high]

/-- A lamp with drive count 16 cannot show that it is stuck. -/
theorem classify_alwaysDriven (o : Sensed) :
    classify 16 o = if o.driven then .healthy else .openMismatch := by
  simp [classify]

/-- Settles O48: the table's rows for drive count 0, 1 to 15 and 16 are the three equations of `classify`. -/
theorem observationKinds : Obligations.ObservationKinds := by
  intro d driven undriven _
  refine ⟨?never, ?part, ?always⟩
  case never =>
    rintro rfl -
    exact classify_neverDriven _
  case part =>
    intro low high
    rw [classify_partlyDriven low high]
    cases driven <;> cases undriven <;> rfl
  case always =>
    rintro rfl -
    exact classify_alwaysDriven _

/-! ### A lamp's health after an observation (R115, R116) -/

/-- The health of a lamp declared failed with this kind. -/
def FailureKind.health : FailureKind → Health
  | .opened => .opened
  | .stuck => .stuck

/-- What the health decision reads and writes in a lamp record. -/
def LampRecord.judged (r : LampRecord) : Health × Nat := (r.health, r.runCount)

theorem State.setLamp_judged (s : State) (i : Lamp) (r : LampRecord) :
    (s.setLamp i r).lamps[i].judged = r.judged := by
  simp

/-- Setting only the run count leaves the health. -/
theorem State.setRunCount_judged (s : State) (i : Lamp) (run : Nat) :
    (s.setLamp i { s.lamps[i] with runCount := run }).lamps[i].judged = (s.lamps[i].health, run) :=
  setLamp_judged ..

/-- A declaration starts a new run, and the failure list and counters it is reported to leave the record alone. -/
theorem State.failLamp_judged (s : State) (i : Lamp) (k : FailureKind) :
    (s.failLamp i k).lamps[i].judged = (k.health, 0) := by
  unfold failLamp
  rw [declare_frame]
  cases k with
  | opened => exact setLamp_judged ..
  | stuck => exact setLamp_judged ..

theorem State.healLamp_judged (s : State) (i : Lamp) : (s.healLamp i).lamps[i].judged = (.good, 0) := by
  rw [healLamp, becameGood_frame]
  exact setLamp_judged ..

/-- A mismatch of an undeclared lamp declares it once its run reaches the fail threshold. -/
theorem State.mismatch_judged (s : State) (i : Lamp) (k : FailureKind) :
    (s.mismatch i k).lamps[i].judged =
      if s.failThreshold ≤ min 15 (s.lamps[i].runCount + 1) then (k.health, 0)
      else (s.lamps[i].health, min 15 (s.lamps[i].runCount + 1)) := by
  unfold mismatch
  by_cases reached : s.failThreshold ≤ min 15 (s.lamps[i].runCount + 1)
  · simp only [ge_iff_le, reached, if_true, failLamp_judged]
  · simp only [ge_iff_le, reached, if_false, setRunCount_judged]

/-- A healthy observation of a declared lamp heals it once its run reaches the recovery threshold. -/
theorem State.recovery_judged (s : State) (i : Lamp) :
    (if min 15 (s.lamps[i].runCount + 1) ≥ s.recoveryThreshold then s.healLamp i
      else s.setLamp i { s.lamps[i] with runCount := min 15 (s.lamps[i].runCount + 1) }).lamps[i].judged =
      if s.recoveryThreshold ≤ min 15 (s.lamps[i].runCount + 1) then (.good, 0)
      else (s.lamps[i].health, min 15 (s.lamps[i].runCount + 1)) := by
  by_cases reached : s.recoveryThreshold ≤ min 15 (s.lamps[i].runCount + 1)
  · simp only [ge_iff_le, reached, if_true, healLamp_judged]
  · simp only [ge_iff_le, reached, if_false, setRunCount_judged]

/-- The model's health decision is the manual's table, with the thresholds as they stand (R117). -/
theorem State.judgeLamp_judged (s : State) (i : Lamp) (o : Observation) :
    (s.judgeLamp i o).lamps[i].judged =
      healthAfter s.failThreshold s.recoveryThreshold s.lamps[i].health s.lamps[i].runCount o := by
  cases o with
  | neutral => simp only [judgeLamp, healthAfter, LampRecord.judged]
  | healthy =>
    cases health : s.lamps[i].health with
    | unknown => simp only [judgeLamp, healthAfter, health, healLamp_judged]
    | good => simpa only [judgeLamp, healthAfter, health] using s.setRunCount_judged i 0
    | opened | stuck => simpa only [judgeLamp, healthAfter, health] using s.recovery_judged i
    | unsupervised => simp only [judgeLamp, healthAfter, LampRecord.judged, health]
  | openMismatch | stuckMismatch =>
    cases health : s.lamps[i].health with
    | unknown | good => simp only [judgeLamp, healthAfter, health, mismatch_judged, FailureKind.health]
    | opened | stuck => simpa only [judgeLamp, healthAfter, health] using s.setRunCount_judged i 0
    | unsupervised => simp only [judgeLamp, healthAfter, LampRecord.judged, health]

/-! ### SET SUPERVISION (R119) -/

/-- The taking of a SET SUPERVISION with a payload of two bytes: its judgement in the state in which it has left its
queue. -/
theorem exec_setSupervision_taken {s : State} {p : Port} {tag a b : Byte}
    (taken : s.takes p ⟨tag, 0x51, [a, b]⟩ = true) :
    exec (.setSupervision p tag [a, b]) s =
      .next ((judgeSetSupervision p (s.takeHead p) (a, b)).1.conclude p ⟨tag, 0x51, [a, b]⟩ none
        (judgeSetSupervision p (s.takeHead p) (a, b)).2) :=
  congrArg Host.Outcome.next (State.executes_judged [] noZone (judgeSetSupervision p) taken rfl)

theorem judgeSetSupervision_desk (s : State) (x : Byte × Byte) :
    judgeSetSupervision .d s x = (s, ⟨.role, []⟩) := rfl

theorem judgeSetSupervision_telemetry {p : Port} (telemetry : p ≠ .d) (s : State) (x : Byte × Byte) :
    judgeSetSupervision p s x =
      ({ s with failThreshold := clamp 1 15 x.1.toNat, recoveryThreshold := clamp 1 15 x.2.toNat },
        .done [byte (clamp 1 15 x.1.toNat), byte (clamp 1 15 x.2.toNat)]) := by
  simp only [judgeSetSupervision, telemetryOnly, telemetry, if_false, State.unless_none]

/-! ### What leaves the thresholds -/

/-- The fail and recovery thresholds in force. -/
def State.thresholds (s : State) : Nat × Nat := (s.failThreshold, s.recoveryThreshold)

theorem judgeStopScan_thresholds (p : Port) (s : State) (u : Unit) :
    (judgeStopScan p s u).1.thresholds = s.thresholds := by
  obtain h | h := judgeStopScan_cases p s u
  · rw [h]
  · rw [h, State.stopScan_frame]
    rfl

theorem exec_stopScan_thresholds (p : Port) (tag : Byte) (payload : List Byte) (s : State) :
    ∃ t, exec (.stopScan p tag payload) s = .next t ∧ t.thresholds = s.thresholds :=
  ⟨_, rfl, State.executes_keeps State.thresholds rfl (fun _ => rfl) (judgeStopScan_thresholds p) (fun _ _ _ => rfl)⟩

/-- Settles O50: SET SUPERVISION by the role of its port, the observations by `State.judgeLamp_judged`, and port reset
and STOP SCAN by the fields they change. -/
theorem supervisionThresholds : Obligations.SupervisionThresholds := by
  refine ⟨?set, ?govern, ?powerUp, ?portReset, ?stopScan⟩
  case set =>
    intro s p tag a b taken fail recovery
    refine ⟨?desk, ?telemetry⟩
    case desk =>
      rintro rfl
      rw [Instr.refusedWith, exec_setSupervision_taken taken, judgeSetSupervision_desk]
      rfl
    case telemetry =>
      intro telemetry
      rw [exec_setSupervision_taken taken, judgeSetSupervision_telemetry telemetry]
      rfl
  case govern => exact State.judgeLamp_judged
  case powerUp => exact fun _ _ _ _ => ⟨_, rfl, rfl, rfl⟩
  case portReset =>
    intro p s
    obtain ⟨t, ht, frame⟩ := exec_portReset_frame p s
    exact ⟨t, ht, by rw [frame], by rw [frame]⟩
  case stopScan =>
    intro p tag payload s
    obtain ⟨t, ht, kept⟩ := exec_stopScan_thresholds p tag payload s
    obtain ⟨failKept, recoveryKept⟩ := Prod.mk.inj kept
    exact ⟨t, ht, failKept, recoveryKept⟩

end Sys2Proof.Machine
end

section
/-! SUPPORT. What an event keeps: the invariants by the fields they speak of, and the pieces that events are made of. -/

namespace Sys2Proof.Machine

/-! ### Banks and lists -/

theorem Vector_set_fin {α : Type} {n : Nat} (v : Vector α n) (i j : Fin n) (a : α) :
    (v.set i.val a i.isLt)[j] = if j = i then a else v[j] := by
  simp only [Fin.getElem_fin, Vector.getElem_set, Fin.ext_iff, eq_comm]

theorem lampsFrom_nodup (first count : Nat) : (lampsFrom first count).Nodup := by
  refine List.Nodup.filterMap (fun a b i ha hb => ?_) List.nodup_range
  simp only [lampOf?, Option.mem_def, Option.dite_none_right_eq_some, Option.some.injEq] at ha hb
  obtain ⟨_, rfl⟩ := ha
  obtain ⟨_, hb⟩ := hb
  exact Nat.add_left_cancel (congrArg Fin.val hb).symm

/-- A count over a list without repetitions, when one member's answer changes. -/
theorem countP_update {α : Type} {p q : α → Bool} {l : List α} {i : α} (nodup : l.Nodup) (mem : i ∈ l)
    (same : ∀ k, k ≠ i → q k = p k) :
    l.countP q + (if p i then 1 else 0) = l.countP p + (if q i then 1 else 0) := by
  classical
  have others : (l.erase i).countP q = (l.erase i).countP p :=
    List.countP_congr fun k hk => by rw [same k ((List.Nodup.mem_erase_iff nodup).1 hk).1]
  have split (r : α → Bool) : l.countP r = (l.erase i).countP r + if r i then 1 else 0 := by
    rw [(List.perm_cons_erase mem).countP_eq, List.countP_cons]
  have hp := split p
  have hq := split q
  omega

/-! ### The invariants by the fields they speak of -/

theorem OwnershipOk.congr {s t : State} (ok : OwnershipOk s) (zones : t.zones = s.zones) (links : t.links = s.links)
    (hold : t.hold = s.hold) (slot : t.slot = s.slot) : OwnershipOk t where
  owner := by rw [zones, links]; exact ok.owner
  holder := by rw [hold, links]; exact ok.holder
  poster := by rw [slot, links]; exact ok.poster
  empty := by rw [slot]; exact ok.empty
  word := by rw [slot]; exact ok.word

theorem ZonesOk.congr {s t : State} (ok : ZonesOk s) (zones : t.zones = s.zones) : ZonesOk t where
  range := by rw [zones]; exact ok.range
  disabled := by rw [zones]; exact ok.disabled
  disjoint := by rw [zones]; exact ok.disjoint

theorem lampsIn_congr {s t : State} (alarm : ∀ i : Lamp, t.lamps[i].alarm = s.lamps[i].alarm) (base size : Nat)
    (states : List AlarmState) : t.lampsIn base size states = s.lampsIn base size states := by
  simp only [State.lampsIn, alarm]

theorem AlarmsOk.congr {s t : State} (ok : AlarmsOk s) (zones : t.zones = s.zones) (lamps : t.lamps = s.lamps) :
    AlarmsOk t := by
  have counts := lampsIn_congr (s := s) (t := t) fun i => by rw [lamps]
  refine ⟨?_, ?_, by rw [lamps]; exact ok.capable⟩
  · rw [zones]; intro z; rw [counts]; exact ok.unack z
  · rw [zones]; intro z; rw [counts]; exact ok.standing z

theorem HornOk.congr {s t : State} (ok : HornOk s) (horn : t.horn = s.horn)
    (lamps : ∀ i : Lamp, t.lamps[i].alarm = s.lamps[i].alarm ∧ t.lamps[i].attrs.hornClass = s.lamps[i].attrs.hornClass) :
    HornOk t := by
  intro sounding
  obtain ⟨i, new, sound⟩ := ok (horn ▸ sounding)
  exact ⟨i, (lamps i).1.trans new, (lamps i).2.trans sound⟩

theorem PortsOk.congr {s t : State} (ok : PortsOk s) (ports : t.ports = s.ports) (served : t.served = s.served) :
    PortsOk t where
  rx := by rw [ports]; exact ok.rx
  commands := by rw [ports]; exact ok.commands
  replies := by rw [ports]; exact ok.replies
  served := by rw [served]; exact ok.served

/-- The fields that the scan invariant speaks of. -/
structure ScanFields where
  scan : ScanState
  hold : Hold
  session : Session
  progress : FrameProgress
  nextFrame : Option Nat
  latched : Vector (List Bool) 16
  phases : Nat × Nat
  timing : Timing
  pendingTiming : Option Timing
  limits : Nat × Nat
  strings : Vector StringRecord 16

def State.scanFields (s : State) : ScanFields :=
  ⟨s.scan, s.hold, s.session, s.progress, s.nextFrame, s.latched, (s.slowPhase, s.fastPhase), s.timing, s.pendingTiming,
    (s.holdLimit, s.testLimit), s.strings⟩

theorem ScanOk.congr {s t : State} (ok : ScanOk s) (fields : t.scanFields = s.scanFields) : ScanOk t := by
  simp only [State.scanFields, ScanFields.mk.injEq, Prod.mk.injEq] at fields
  obtain ⟨scan, hold, session, progress, nextFrame, latched, ⟨slow, fast⟩, timing, pendingTiming, ⟨limit, test⟩,
    strings⟩ := fields
  constructor
  · simp only [scan, hold, session, progress, nextFrame, State.lampOn, latched]; exact ok.dark
  · simp only [scan, progress, nextFrame, slow, fast, timing]; exact ok.running
  · rw [progress]; exact ok.begun
  · rw [progress, strings]; exact ok.left
  · rw [timing, pendingTiming]; exact ok.timing
  · rw [limit, test]; exact ok.limits
  · rw [strings]; exact ok.strings

/-- What the invariant of the lamp records says of one record (R5, R7, R19, R117). -/
structure LampRecord.Ok (r : LampRecord) : Prop where
  runCount : r.runCount ≤ 15
  supervised : r.attrs.supervised = false ↔ r.health = .unsupervised
  suspect : r.suspect = true → r.attrs = ⟨false, .quiet, 0, true⟩
  rendering : r.rendering.ok

theorem LampsOk.record {s : State} (ok : LampsOk s) (i : Lamp) : s.lamps[i].Ok :=
  ⟨ok.runCount i, ok.supervised i, ok.suspect i, (ok.rendering i).1⟩

theorem LampsOk.of_records {s t : State} (ok : LampsOk s) (records : ∀ i : Lamp, t.lamps[i].Ok)
    (snapshot : t.snapshot = s.snapshot) (drive : t.drive = s.drive) (levels : t.levels = s.levels)
    (fail : t.failThreshold = s.failThreshold) (recovery : t.recoveryThreshold = s.recoveryThreshold) : LampsOk t where
  runCount i := (records i).runCount
  supervised i := (records i).supervised
  suspect i := (records i).suspect
  rendering i := ⟨(records i).rendering, by rw [snapshot, drive]; exact (ok.rendering i).2⟩
  levels := by rw [levels]; exact ok.levels
  thresholds := by rw [fail, recovery]; exact ok.thresholds

theorem LampsOk.congr {s t : State} (ok : LampsOk s) (lamps : t.lamps = s.lamps) (snapshot : t.snapshot = s.snapshot)
    (drive : t.drive = s.drive) (levels : t.levels = s.levels) (fail : t.failThreshold = s.failThreshold)
    (recovery : t.recoveryThreshold = s.recoveryThreshold) : LampsOk t :=
  ok.of_records (by rw [lamps]; exact ok.record) snapshot drive levels fail recovery

theorem LinksOk.congr {s t : State} (ok : LinksOk s) (links : t.links = s.links) : LinksOk t := by
  unfold LinksOk
  rw [links]
  exact ok

theorem RecordsOk.congr {s t : State} (ok : RecordsOk s) (fault : t.fault = s.fault) (capture : t.capture = s.capture)
    (failures : t.failures = s.failures) : RecordsOk t where
  free := by rw [fault]; exact ok.free
  frozen := by rw [fault]; exact ok.frozen
  capture := by rw [capture]; exact ok.capture
  failures := by rw [failures]; exact ok.failures

/-! ### What a piece of an event keeps -/

/-- Whether a counter selects the counting of commands (R168). -/
def CounterEvent.ofCommands (e : CounterEvent) : Bool := e = .commandsDone || e = .commandsRefused

/-- From `s` to `t` every invariant is kept but those of the ports and of the horn, which have pieces of their own, and
the queue of waiting events stays. -/
structure Keeps (s t : State) : Prop where
  ownership : OwnershipOk s → OwnershipOk t
  zones     : ZonesOk s → ZonesOk t
  alarms    : ZonesOk s → AlarmsOk s → AlarmsOk t
  scan      : ScanOk s → ScanOk t
  lamps     : LampsOk s → LampsOk t
  links     : LinksOk s → LinksOk t
  records   : RecordsOk s → RecordsOk t
  pending   : t.pending = s.pending

/-- A piece that moreover leaves the ports and the counting of commands to the executor. -/
structure Works (s t : State) : Prop extends Keeps s t where
  ports   : t.ports = s.ports
  served  : t.served = s.served
  counted : ∀ j : CounterNo, s.counters[j].event.ofCommands = true → t.counters[j] = s.counters[j]

/-- A piece at whose end the horn is settled. -/
structure Settles (s t : State) : Prop extends Works s t where
  horn : HornOk s → HornOk t

/-- All that is kept from an event's beginning to its end. -/
structure KeepsAll (s t : State) : Prop extends Keeps s t where
  ports : PortsOk s → PortsOk t
  horn  : HornOk s → HornOk t

theorem Keeps.trans {s t u : State} (h : Keeps s t) (k : Keeps t u) : Keeps s u where
  ownership ok := k.ownership (h.ownership ok)
  zones ok := k.zones (h.zones ok)
  alarms zones ok := k.alarms (h.zones zones) (h.alarms zones ok)
  scan ok := k.scan (h.scan ok)
  lamps ok := k.lamps (h.lamps ok)
  links ok := k.links (h.links ok)
  records ok := k.records (h.records ok)
  pending := k.pending.trans h.pending

theorem Works.trans {s t u : State} (h : Works s t) (k : Works t u) : Works s u where
  toKeeps := h.toKeeps.trans k.toKeeps
  ports := k.ports.trans h.ports
  served := k.served.trans h.served
  counted j selects := by
    have same := h.counted j selects
    exact (k.counted j (by rw [same]; exact selects)).trans same

theorem Settles.trans {s t u : State} (h : Settles s t) (k : Settles t u) : Settles s u where
  toWorks := h.toWorks.trans k.toWorks
  horn ok := k.horn (h.horn ok)

theorem KeepsAll.trans {s t u : State} (h : KeepsAll s t) (k : KeepsAll t u) : KeepsAll s u where
  toKeeps := h.toKeeps.trans k.toKeeps
  ports ok := k.ports (h.ports ok)
  horn ok := k.horn (h.horn ok)

theorem Settles.keepsAll {s t : State} (h : Settles s t) : KeepsAll s t where
  toKeeps := h.toKeeps
  ports ok := ok.congr h.ports h.served
  horn := h.horn

@[refl] theorem Works.refl (s : State) : Works s s :=
  ⟨⟨id, id, fun _ => id, id, id, id, id, rfl⟩, rfl, rfl, fun _ _ => rfl⟩

@[refl] theorem Settles.refl (s : State) : Settles s s := ⟨.refl s, id⟩

/-- A piece that changes neither the horn nor a lamp's alarm state or horn class leaves the horn settled. -/
theorem Works.settles {s t : State} (h : Works s t) (horn : t.horn = s.horn)
    (lamps : ∀ i : Lamp, t.lamps[i].alarm = s.lamps[i].alarm ∧ t.lamps[i].attrs.hornClass = s.lamps[i].attrs.hornClass) :
    Settles s t := ⟨h, fun ok => ok.congr horn lamps⟩

theorem Works.settles_of_eq {s t : State} (h : Works s t) (horn : t.horn = s.horn) (lamps : t.lamps = s.lamps) :
    Settles s t := h.settles horn fun i => by rw [lamps]; exact ⟨rfl, rfl⟩

theorem Works.foldl {α : Type} {f : State → α → State} (h : ∀ s a, Works s (f s a)) (l : List α) (s : State) :
    Works s (l.foldl f s) := by
  induction l generalizing s with
  | nil => exact .refl s
  | cons a as ih => exact (h s a).trans (ih _)

theorem Settles.foldl {α : Type} {f : State → α → State} (h : ∀ s a, Settles s (f s a)) (l : List α) (s : State) :
    Settles s (l.foldl f s) := by
  induction l generalizing s with
  | nil => exact .refl s
  | cons a as ih => exact (h s a).trans (ih _)

/-! ### The pieces, by the fields they change -/

theorem works_signals (s : State) (h : Horn) (n : PerPort (Vector Bool 10)) (C : Vector Counter 4)
    (counted : ∀ j : CounterNo, s.counters[j].event.ofCommands = true → C[j] = s.counters[j]) :
    Works s { s with horn := h, notices := n, counters := C } :=
  ⟨⟨fun ok => ok.congr rfl rfl rfl rfl, fun ok => ok.congr rfl, fun _ ok => ok.congr rfl rfl, fun ok => ok.congr rfl,
    fun ok => ok.congr rfl rfl rfl rfl rfl rfl, fun ok => ok.congr rfl, fun ok => ok.congr rfl rfl rfl, rfl⟩,
    rfl, rfl, counted⟩

theorem works_settings (s : State) (m : ArbMode) (w : Vector Window 4) (r : Vector (PerPort Bool) 10) (input : Bool) :
    Works s { s with mode := m, windows := w, routing := r, testInput := input } :=
  ⟨⟨fun ok => ok.congr rfl rfl rfl rfl, fun ok => ok.congr rfl, fun _ ok => ok.congr rfl rfl, fun ok => ok.congr rfl,
    fun ok => ok.congr rfl rfl rfl rfl rfl rfl, fun ok => ok.congr rfl, fun ok => ok.congr rfl rfl rfl, rfl⟩,
    rfl, rfl, fun _ _ => rfl⟩

theorem works_zones (s : State) (Z : Vector ZoneRecord 64)
    (ownership : OwnershipOk s → OwnershipOk { s with zones := Z }) (zones : ZonesOk s → ZonesOk { s with zones := Z })
    (alarms : ZonesOk s → AlarmsOk s → AlarmsOk { s with zones := Z }) : Works s { s with zones := Z } :=
  ⟨⟨ownership, zones, alarms, fun ok => ok.congr rfl, fun ok => ok.congr rfl rfl rfl rfl rfl rfl, fun ok => ok.congr rfl,
    fun ok => ok.congr rfl rfl rfl, rfl⟩, rfl, rfl, fun _ _ => rfl⟩

theorem works_links (s : State) (L : PerPort LinkRecord)
    (ownership : OwnershipOk s → OwnershipOk { s with links := L }) (links : LinksOk s → LinksOk { s with links := L }) :
    Works s { s with links := L } :=
  ⟨⟨ownership, fun ok => ok.congr rfl, fun _ ok => ok.congr rfl rfl, fun ok => ok.congr rfl,
    fun ok => ok.congr rfl rfl rfl rfl rfl rfl, links, fun ok => ok.congr rfl rfl rfl, rfl⟩, rfl, rfl, fun _ _ => rfl⟩

theorem works_slot (s : State) (h : Handover) (ownership : OwnershipOk s → OwnershipOk { s with slot := h }) :
    Works s { s with slot := h } :=
  ⟨⟨ownership, fun ok => ok.congr rfl, fun _ ok => ok.congr rfl rfl, fun ok => ok.congr rfl,
    fun ok => ok.congr rfl rfl rfl rfl rfl rfl, fun ok => ok.congr rfl, fun ok => ok.congr rfl rfl rfl, rfl⟩,
    rfl, rfl, fun _ _ => rfl⟩

/-- A change of the hold is one of owners and of the scan. -/
theorem works_hold (s : State) (h : Hold) (holder : ∀ p, h.holder = some p → (s.links.get p).state = .live)
    (dark : s.scan = .dark → h = .free) : Works s { s with hold := h } :=
  ⟨⟨fun ok => ⟨ok.owner, holder, ok.poster, ok.empty, ok.word⟩, fun ok => ok.congr rfl, fun _ ok => ok.congr rfl rfl,
    fun ok => ⟨fun d => ⟨dark d, (ok.dark d).2⟩, ok.running, ok.begun, ok.left, ok.timing, ok.limits, ok.strings⟩,
    fun ok => ok.congr rfl rfl rfl rfl rfl rfl, fun ok => ok.congr rfl, fun ok => ok.congr rfl rfl rfl, rfl⟩,
    rfl, rfl, fun _ _ => rfl⟩

/-- A change of the scan but for the hold, which has an owner too. -/
theorem settles_scan (s : State) (scan : ScanState) (session : Session) (progress : FrameProgress) (nextFrame : Option Nat)
    (latched : Vector (List Bool) 16) (slowPhase fastPhase : Nat) (frameCount : Word32) (timing : Timing)
    (pendingTiming : Option Timing) (holdLimit testLimit : Nat) (strings : Vector StringRecord 16)
    (ok : ScanOk s → ScanOk { s with
      scan, session, progress, nextFrame, latched, slowPhase, fastPhase, frameCount, timing, pendingTiming, holdLimit,
      testLimit, strings }) : Settles s { s with
      scan, session, progress, nextFrame, latched, slowPhase, fastPhase, frameCount, timing, pendingTiming, holdLimit,
      testLimit, strings } :=
  ⟨⟨⟨fun ok => ok.congr rfl rfl rfl rfl, fun ok => ok.congr rfl, fun _ ok => ok.congr rfl rfl, ok,
    fun ok => ok.congr rfl rfl rfl rfl rfl rfl, fun ok => ok.congr rfl, fun ok => ok.congr rfl rfl rfl, rfl⟩,
    rfl, rfl, fun _ _ => rfl⟩,
    fun ok => ok.congr rfl fun _ => ⟨rfl, rfl⟩⟩

/-- Lamp records changed in no alarm state. -/
theorem works_lamps (s : State) (L : Vector LampRecord 4096) (alarm : ∀ i : Lamp, L[i].alarm = s.lamps[i].alarm)
    (capable : ∀ i : Lamp, L[i].attrs.alarmCapable = false →
      L[i].alarm = .normal ∨ s.lamps[i].attrs.alarmCapable = false)
    (record : LampsOk s → ∀ i : Lamp, L[i].Ok) : Works s { s with lamps := L } := by
  have counts := lampsIn_congr (s := s) (t := { s with lamps := L }) alarm
  refine ⟨⟨fun ok => ok.congr rfl rfl rfl rfl, fun ok => ok.congr rfl, fun _ ok => ⟨?_, ?_, fun i incapable => ?_⟩,
    fun ok => ok.congr rfl, fun ok => ok.of_records (record ok) rfl rfl rfl rfl rfl, fun ok => ok.congr rfl,
    fun ok => ok.congr rfl rfl rfl, rfl⟩, rfl, rfl, fun _ _ => rfl⟩
  · intro z; rw [counts]; exact ok.unack z
  · intro z; rw [counts]; exact ok.standing z
  · exact (capable i incapable).elim id fun h => (alarm i).trans (ok.capable i h)

/-- The snapshot, the drive counts and what lamps are drawn and judged by. -/
theorem settles_display (s : State) (snapshot : Vector Rendering 4096) (drive : Vector Nat 4096) (levels : Levels)
    (failThreshold recoveryThreshold : Nat)
    (ok : LampsOk s → LampsOk { s with snapshot, drive, levels, failThreshold, recoveryThreshold }) :
    Settles s { s with snapshot, drive, levels, failThreshold, recoveryThreshold } :=
  ⟨⟨⟨fun ok => ok.congr rfl rfl rfl rfl, fun ok => ok.congr rfl, fun _ ok => ok.congr rfl rfl, fun ok => ok.congr rfl, ok,
    fun ok => ok.congr rfl, fun ok => ok.congr rfl rfl rfl, rfl⟩, rfl, rfl, fun _ _ => rfl⟩,
    fun ok => ok.congr rfl fun _ => ⟨rfl, rfl⟩⟩

/-- The records that freeze. -/
theorem works_records (s : State) (fault : FaultRecord) (capture : Capture) (failures : List FailureEntry)
    (overflow : Bool) (ok : RecordsOk s → RecordsOk { s with fault, capture, failures, overflow }) :
    Works s { s with fault, capture, failures, overflow } :=
  ⟨⟨fun ok => ok.congr rfl rfl rfl rfl, fun ok => ok.congr rfl, fun _ ok => ok.congr rfl rfl, fun ok => ok.congr rfl,
    fun ok => ok.congr rfl rfl rfl rfl rfl rfl, fun ok => ok.congr rfl, ok, rfl⟩, rfl, rfl, fun _ _ => rfl⟩

end Sys2Proof.Machine
end

section
/-! SUPPORT. What the shared operations keep (chapters 1, 4, 7, 8, 10). -/

namespace Sys2Proof.Machine

/-! ### Signals -/

theorem works_raise (s : State) (k : NoticeKind) : Works s (s.raise k) := works_signals s _ _ _ fun _ _ => rfl

theorem settles_raise (s : State) (k : NoticeKind) : Settles s (s.raise k) :=
  (works_raise s k).settles_of_eq rfl rfl

/-- A counter that selects the counting of commands counts no other event. -/
theorem Counter.not_counts {c : Counter} {e : CounterEvent} (selects : c.event.ofCommands = true)
    (other : e.ofCommands = false) (p : Option Port) (z : Option ZoneNo) : c.counts e p z = false := by
  have : c.event ≠ e := fun h => by rw [h, other] at selects; cases selects
  simp [Counter.counts, this]

theorem works_report (s : State) {e : CounterEvent} (other : e.ofCommands = false) (p : Option Port)
    (z : Option ZoneNo) : Works s (s.report e p z) :=
  works_signals s _ _ _ fun j selects => by
    rw [Fin.getElem_fin, bankMap_getElem, ← Fin.getElem_fin, Counter.not_counts selects other]
    rfl

theorem settles_report (s : State) {e : CounterEvent} (other : e.ofCommands = false) (p : Option Port)
    (z : Option ZoneNo) : Settles s (s.report e p z) :=
  (works_report s other p z).settles_of_eq rfl rfl

theorem works_setHorn (s : State) (h : Horn) : Works s (s.setHorn h) := by
  rw [State.setHorn_frame]
  exact works_signals s _ _ _ fun _ _ => rfl

/-- A QUIET horn is never at odds with the lamps (R75, R76). -/
theorem settles_quiet (s : State) : Settles s (s.setHorn .quiet) :=
  ⟨works_setHorn s _, fun _ sounding => by rw [State.setHorn_frame] at sounding; cases sounding⟩

theorem works_settleHorn (s : State) (entered : Bool) : Works s (s.settleHorn entered) := by
  rw [State.settleHorn_frame]
  exact works_signals s _ _ _ fun _ _ => rfl

/-- The look at the lamps in NEW finds one of class SOUND exactly if there is one (R74). -/
theorem State.soundNew_iff (s : State) :
    s.soundNew = true ↔ ∃ i : Lamp, s.lamps[i].alarm = .new ∧ s.lamps[i].attrs.hornClass = .sound := by
  simp only [soundNew, List.any_eq_true, Bool.and_eq_true, decide_eq_true_eq, Vector.mem_toList_iff]
  constructor
  · rintro ⟨r, mem, h⟩
    obtain ⟨k, hk, rfl⟩ := Vector.getElem_of_mem mem
    exact ⟨⟨k, hk⟩, h⟩
  · rintro ⟨i, h⟩
    exact ⟨_, Vector.getElem_mem i.isLt, h⟩

/-- After the horn is settled it sounds only for a SOUND lamp in NEW, whatever came before (R74, R75). -/
theorem Works.settleHorn {s u : State} (h : Works s u) (entered : Bool)
    (sound : entered = true → ∃ i : Lamp, u.lamps[i].alarm = .new ∧ u.lamps[i].attrs.hornClass = .sound) :
    Settles s (u.settleHorn entered) := by
  refine ⟨h.trans (works_settleHorn u entered), fun _ sounding => ?_⟩
  have witness : ∃ i : Lamp, u.lamps[i].alarm = .new ∧ u.lamps[i].attrs.hornClass = .sound := by
    rw [State.settleHorn_horn] at sounding
    cases entered with
    | true => exact sound rfl
    | false =>
      cases found : u.soundNew with
      | true => exact u.soundNew_iff.1 found
      | false => simp [found] at sounding
  rw [State.settleHorn_frame]
  exact witness

/-! ### The fault record and the watch capture -/

@[simp] theorem FaultSet.add_any (f : FaultSet) (k : FaultKind) : (f.add k).any = true := by
  cases k <;> simp [FaultSet.add, FaultSet.any]

/-- A fault captured is of a place that its kind can have (R134, R135). -/
theorem works_reportFault (s : State) (k : FaultKind) (place : FaultPlace) (fits : k.fits place) :
    Works s (s.reportFault k place) := by
  unfold State.reportFault
  split
  · exact .refl s
  · split
    · rename_i frozen
      refine works_records s _ _ _ _ fun ok => ⟨fun free => ?_, fun _ => ok.frozen frozen, ok.capture, ok.failures⟩
      cases (FaultSet.add_any _ k).symm.trans free
    · refine Works.trans ?_ (works_raise _ _)
      refine works_records s _ _ _ _ fun ok =>
        ⟨fun free => ?_, fun _ => ⟨k, place, rfl, rfl, fits⟩, ok.capture, ok.failures⟩
      cases (FaultSet.add_any _ k).symm.trans free

theorem settles_reportFault (s : State) (k : FaultKind) (place : FaultPlace) (fits : k.fits place) :
    Settles s (s.reportFault k place) :=
  (works_reportFault s k place fits).settles_of_eq (by rw [State.reportFault_frame]) (by rw [State.reportFault_frame])

theorem settles_recordHit (s : State) (h : Hit) : Settles s (s.recordHit h) := by
  refine Works.settles_of_eq ?_ (by rw [State.recordHit_frame]) (by rw [State.recordHit_frame])
  unfold State.recordHit
  refine Works.trans ?_ (works_report _ rfl _ _)
  split
  · refine Works.trans ?_ (works_raise _ _)
    refine works_records s _ _ _ _ fun ok => ⟨ok.free, ok.frozen, fun none => ?_, ok.failures⟩
    cases none
  · rename_i frozen
    refine works_records s _ _ _ _ fun ok => ⟨ok.free, ok.frozen, fun none => ?_, ok.failures⟩
    cases frozen.symm.trans none

/-! ### The failure list -/

/-- A change of the failure list alone keeps its law if its lamps are some of those it had. -/
theorem works_failures (s : State) (l : List FailureEntry) (overflow : Bool)
    (lamps : (l.map FailureEntry.lamp).Sublist (s.failures.map FailureEntry.lamp)) :
    Works s { s with failures := l, overflow := overflow } :=
  works_records s _ _ _ _ fun ok => ⟨ok.free, ok.frozen, ok.capture,
    by simpa using lamps.length_le.trans (by simpa using ok.failures.1), lamps.nodup ok.failures.2⟩

theorem settles_declare (s : State) (i : Lamp) (k : FailureKind) : Settles s (s.declare i k) := by
  refine Works.settles_of_eq ?_ (by rw [State.declare_frame]) (by rw [State.declare_frame])
  unfold State.declare
  refine Works.trans ?_ (works_raise _ _)
  split
  · refine works_failures s _ _ ?_
    rw [List.map_map, List.map_congr_left (g := FailureEntry.lamp) fun e _ => ?_]
    by_cases same : e.lamp = i
    · simp [same]
    · simp [same]
  · rename_i absent
    split
    · rename_i room
      refine works_records s _ _ _ _ fun ok => ⟨ok.free, ok.frozen, ok.capture, ?_, ?_⟩
      · simp only [Config.failureDepth] at room
        simp only [List.length_append, List.length_singleton]
        omega
      · simp only [List.map_append, List.map_singleton, List.nodup_append, List.nodup_singleton]
        refine ⟨ok.failures.2, trivial, ?_⟩
        simpa using absent
    · exact works_failures s _ _ (List.Sublist.refl _)

theorem settles_becameGood (s : State) (i : Lamp) : Settles s (s.becameGood i) := by
  refine (works_failures s _ _ ?_).settles_of_eq rfl rfl
  induction s.failures with
  | nil => exact List.Sublist.slnil
  | cons e es ih =>
    by_cases same : e.lamp = i
    · cases reported : e.reported
      · simpa [same, reported] using ih
      · simpa [same, reported] using ih.cons _
    · simpa [same] using ih

theorem settles_dropFailure (s : State) (i : Lamp) : Settles s (s.dropFailure i) :=
  (works_failures s _ _ (List.filter_sublist.map _)).settles_of_eq rfl rfl

/-! ### Lamp records -/

/-- A record rewritten with its alarm state and its power to be in alarm as they were. -/
theorem works_setLamp (s : State) (i : Lamp) (r : LampRecord) (alarm : r.alarm = s.lamps[i].alarm)
    (capable : r.attrs.alarmCapable = false → r.alarm = .normal ∨ s.lamps[i].attrs.alarmCapable = false)
    (record : s.lamps[i].Ok → r.Ok) : Works s (s.setLamp i r) := by
  refine works_lamps s _ (fun k => ?_) (fun k => ?_) (fun ok k => ?_) <;> rw [Vector_set_fin] <;> split
  · subst k; exact alarm
  · rfl
  · subst k; exact capable
  · exact .inr
  · exact record (ok.record i)
  · exact ok.record k

/-- A record rewritten with its alarm state and attributes as they were. -/
theorem settles_setLamp (s : State) (i : Lamp) (r : LampRecord) (alarm : r.alarm = s.lamps[i].alarm)
    (attrs : r.attrs = s.lamps[i].attrs) (record : s.lamps[i].Ok → r.Ok) : Settles s (s.setLamp i r) := by
  refine (works_setLamp s i r alarm (by rw [attrs]; exact .inr) record).settles rfl fun k => ?_
  rw [State.setLamp_lamps, Vector_set_fin]
  split
  · subst k; exact ⟨alarm, congrArg _ attrs⟩
  · exact ⟨rfl, rfl⟩

theorem settles_land (s : State) (upsets : List Upset) : Settles s (s.land upsets) := by
  unfold State.land
  refine Settles.foldl (fun s u => ?_) upsets s
  exact settles_setLamp s u.lamp _ rfl rfl fun ok => ⟨ok.1, ok.2, ok.3, ok.4⟩

theorem LampRecord.suspectDefaults_ok : LampRecord.suspectDefaults.Ok :=
  ⟨by decide, by decide, fun _ => rfl, by unfold Rendering.ok; decide⟩

/-! ### The zone of a lamp -/

/-- The zone of a lamp is enabled and holds it (R27). -/
theorem State.zoneOf_holds {s : State} {n : Nat} {z : ZoneNo} (h : s.zoneOf n = some z) : s.zones[z].holds n = true := by
  have found : (List.finRange 64).find? (fun z => s.zones[z].holds n) = some z := h
  simpa using List.find?_some found

theorem ZoneRecord.holds_iff (z : ZoneRecord) (n : Nat) :
    z.holds n = true ↔ z.enabled = true ∧ z.base ≤ n ∧ n < z.base + z.size := by
  simp [ZoneRecord.holds, and_assoc]

/-- Where no two enabled zones overlap, a zone that holds a lamp is the zone of that lamp (R26, R27). -/
theorem ZonesOk.zoneOf_eq {s : State} (ok : ZonesOk s) {n : Nat} {z : ZoneNo} (holds : s.zones[z].holds n = true) :
    s.zoneOf n = some z := by
  cases found : s.zoneOf n with
  | none => exact absurd holds (List.find?_eq_none.1 found z (List.mem_finRange z))
  | some y =>
    by_contra other
    have hy := (ZoneRecord.holds_iff _ _).1 (State.zoneOf_holds found)
    have hz := (ZoneRecord.holds_iff _ _).1 holds
    have apart := ok.disjoint y z (fun h => other (by rw [h])) hy.1 hz.1
    simp only [overlap, Bool.and_eq_false_iff, decide_eq_false_iff_not] at apart
    omega

/-! ### Changes of alarm state (R71) -/

theorem State.setAlarm_lamps (s : State) (i k : Lamp) (a : AlarmState) :
    (s.setAlarm i a).lamps[k] = if k = i then { s.lamps[i] with alarm := a } else s.lamps[k] := by
  rw [setAlarm_frame, Vector_set_fin]

theorem State.countChange_zones (s : State) (i : Lamp) (was now : AlarmState) (z : ZoneNo) :
    (s.countChange i was now).zones[z] = if s.zoneOf i.val = some z then { s.zones[z] with
      unack := s.zones[z].unack + now.unack - was.unack
      standing := s.zones[z].standing + now.stands - was.stands } else s.zones[z] := by
  unfold countChange
  cases s.zoneOf i.val with
  | none => simp
  | some y =>
    simp only [setZone_zones, Vector_set_fin, Option.some.injEq, eq_comm (a := y)]
    split
    · subst z; rfl
    · rfl

theorem State.setAlarm_zones (s : State) (i : Lamp) (a : AlarmState) (z : ZoneNo) :
    (s.setAlarm i a).zones[z] = if s.zoneOf i.val = some z then { s.zones[z] with
      unack := s.zones[z].unack + a.unack - s.lamps[i].alarm.unack
      standing := s.zones[z].standing + a.stands - s.lamps[i].alarm.stands } else s.zones[z] := by
  rw [setAlarm_frame]
  exact s.countChange_zones i _ a z

theorem AlarmState.unack_eq (a : AlarmState) : a.unack = if a ∈ [AlarmState.new, .returned] then 1 else 0 := by
  cases a <;> rfl

theorem AlarmState.stands_eq (a : AlarmState) : a.stands = if a ∈ [AlarmState.standing] then 1 else 0 := by
  cases a <;> rfl

/-- How a count of the lamps in some alarm states follows the change of one lamp's. -/
theorem State.lampsIn_setAlarm (s : State) (i : Lamp) (a : AlarmState) (base size : Nat) (states : List AlarmState) :
    (base ≤ i.val ∧ i.val < base + size →
      (s.setAlarm i a).lampsIn base size states + (if s.lamps[i].alarm ∈ states then 1 else 0) =
        s.lampsIn base size states + if a ∈ states then 1 else 0) ∧
    (¬ (base ≤ i.val ∧ i.val < base + size) →
      (s.setAlarm i a).lampsIn base size states = s.lampsIn base size states) := by
  have others : ∀ k, k ≠ i → (s.setAlarm i a).lamps[k].alarm = s.lamps[k].alarm := fun k hk => by
    rw [setAlarm_lamps, if_neg hk]
  have self : (s.setAlarm i a).lamps[i].alarm = a := by rw [setAlarm_lamps, if_pos rfl]
  refine ⟨fun inside => ?_, fun outside => ?_⟩
  · have := countP_update (p := fun k : Lamp => decide (s.lamps[k].alarm ∈ states))
      (q := fun k : Lamp => decide ((s.setAlarm i a).lamps[k].alarm ∈ states)) (lampsFrom_nodup base size)
      ((mem_lampsFrom base size i).2 inside) fun k hk => by rw [others k hk]
    simpa only [lampsIn, self, decide_eq_true_eq] using this
  · refine List.countP_congr fun k mem => ?_
    have : k ≠ i := fun h => outside (h ▸ (mem_lampsFrom base size k).1 mem)
    rw [others k this]

/-- A change of alarm state keeps the zone counts in line with the lamps; a lamp that is not alarm-capable leaves NORMAL
by none. -/
theorem works_setAlarm (s : State) (i : Lamp) (a : AlarmState)
    (capable : a ≠ .normal → s.lamps[i].attrs.alarmCapable = true ∨ s.lamps[i].alarm ≠ .normal) :
    Works s (s.setAlarm i a) := by
  have zone := s.setAlarm_zones i a
  have base : ∀ z : ZoneNo, (s.setAlarm i a).zones[z].base = s.zones[z].base := fun z => by rw [zone]; split <;> rfl
  have size : ∀ z : ZoneNo, (s.setAlarm i a).zones[z].size = s.zones[z].size := fun z => by rw [zone]; split <;> rfl
  have enabled : ∀ z : ZoneNo, (s.setAlarm i a).zones[z].enabled = s.zones[z].enabled := fun z => by
    rw [zone]; split <;> rfl
  have owner : ∀ z : ZoneNo, (s.setAlarm i a).zones[z].owner = s.zones[z].owner := fun z => by rw [zone]; split <;> rfl
  have frame := s.setAlarm_frame i a
  have inside : ZonesOk s → ∀ z : ZoneNo, s.zones[z].enabled = true →
      (s.zoneOf i.val = some z ↔ s.zones[z].base ≤ i.val ∧ i.val < s.zones[z].base + s.zones[z].size) :=
    fun ok z on => ⟨fun h => ((ZoneRecord.holds_iff _ _).1 (State.zoneOf_holds h)).2,
      fun h => ok.zoneOf_eq ((ZoneRecord.holds_iff _ _).2 ⟨on, h⟩)⟩
  refine ⟨⟨fun ok => ?ownership, fun ok => ?zones, fun zok ok => ?alarms, fun ok => ok.congr (by rw [frame]; rfl),
    fun ok => ?lamps, fun ok => ok.congr (by rw [frame]), fun ok => ok.congr (by rw [frame]) (by rw [frame]) (by rw [frame]),
    by rw [frame]⟩, by rw [frame], by rw [frame], fun _ _ => by rw [frame]⟩
  case ownership =>
    refine ⟨fun z p => ?_, by rw [frame]; exact ok.holder, by rw [frame]; exact ok.poster, by rw [frame]; exact ok.empty,
      by rw [frame]; exact ok.word⟩
    rw [owner, enabled, frame]
    exact ok.owner z p
  case zones =>
    refine ⟨fun z => by rw [base, size]; exact ok.range z, fun z off => ?_, fun y z => ?_⟩
    · rw [enabled] at off
      have elsewhere : s.zoneOf i.val ≠ some z := fun h => by
        have := ((ZoneRecord.holds_iff _ _).1 (State.zoneOf_holds h)).1
        rw [off] at this
        cases this
      rw [zone, if_neg elsewhere]
      exact ok.disabled z off
    · rw [enabled, enabled, base, base, size, size]
      exact ok.disjoint y z
  case alarms =>
    refine ⟨fun z on => ?_, fun z on => ?_, fun k => ?_⟩
    · rw [enabled] at on
      rw [base, size, zone]
      have count := s.lampsIn_setAlarm i a s.zones[z].base s.zones[z].size [.new, .returned]
      rw [← AlarmState.unack_eq, ← AlarmState.unack_eq, ← ok.unack z on, ← inside zok z on] at count
      split
      · rename_i here
        have := count.1 here
        simp only
        omega
      · rename_i away
        rw [count.2 away]
    · rw [enabled] at on
      rw [base, size, zone]
      have count := s.lampsIn_setAlarm i a s.zones[z].base s.zones[z].size [.standing]
      rw [← AlarmState.stands_eq, ← AlarmState.stands_eq, ← ok.standing z on, ← inside zok z on] at count
      split
      · rename_i here
        have := count.1 here
        simp only
        omega
      · rename_i away
        rw [count.2 away]
    · rw [State.setAlarm_lamps]
      split
      · intro incapable
        by_contra leaves
        rcases capable leaves with able | awake
        · exact absurd (able.symm.trans incapable) (by decide)
        · exact awake (ok.capable i incapable)
      · exact ok.capable k
  case lamps =>
    refine ok.of_records (fun k => ?_) (by rw [frame]) (by rw [frame]) (by rw [frame]) (by rw [frame]) (by rw [frame])
    rw [State.setAlarm_lamps]
    split
    · have r := ok.record i
      exact ⟨r.1, r.2, r.3, r.4⟩
    · exact ok.record k

/-! ### Checking reads (R131, R132) -/

/-- The two writes of a double error are one change to NORMAL and then the suspect defaults. -/
theorem State.replaced_eq (s : State) (i : Lamp) :
    (s.countChange i s.lamps[i].alarm .normal).setLamp i .suspectDefaults =
      (s.setAlarm i .normal).setLamp i .suspectDefaults := by
  unfold setAlarm
  simp [State.setLamp]

theorem works_replaced (s : State) (i : Lamp) :
    Works s ((s.countChange i s.lamps[i].alarm .normal).setLamp i .suspectDefaults) := by
  rw [State.replaced_eq]
  refine (works_setAlarm s i .normal fun h => absurd rfl h).trans (works_setLamp _ i _ ?_ ?_ ?_)
  · rw [State.setAlarm_lamps, if_pos rfl]; rfl
  · exact fun _ => .inl rfl
  · exact fun _ => LampRecord.suspectDefaults_ok

theorem settles_checkLamp (s : State) (i : Lamp) : Settles s (s.checkLamp i) := by
  unfold State.checkLamp
  split
  · exact .refl s
  · refine Settles.trans ?_ (settles_reportFault _ .corrected (.lamp i) trivial)
    exact settles_setLamp s i _ rfl rfl fun ok => ⟨ok.1, ok.2, ok.3, ok.4⟩
  · refine Settles.trans ?_ (settles_reportFault _ .uncorrectable (.lamp i) trivial)
    exact (works_replaced s i).settleHorn false fun h => by cases h

theorem settles_checkLamps (s : State) (lamps : List Lamp) : Settles s (s.checkLamps lamps) :=
  Settles.foldl settles_checkLamp lamps s

end Sys2Proof.Machine
end

section
/-! SUPPORT. What the pieces of the commands keep: the image, alarms, zones, links and the handover slot (chapters 1
to 4). -/

namespace Sys2Proof.Machine

/-! ### Commands on the image -/

theorem settles_writeAspect (s : State) (x : Lamp × Aspect) : Settles s (s.writeAspect x) :=
  settles_setLamp s x.1 _ rfl rfl fun ok => ⟨ok.1, ok.2, ok.3, ok.4⟩

theorem settles_setOverride (s : State) (i : Lamp) (o : Option Aspect) : Settles s (s.setOverride i o) :=
  settles_setLamp s i _ rfl rfl fun ok => ⟨ok.1, ok.2, ok.3, ok.4⟩

/-- A field of every record rewritten, none of those that alarms and horn depend on. -/
theorem settles_lamps (s : State) (L : Vector LampRecord 4096)
    (same : ∀ i : Lamp, L[i].alarm = s.lamps[i].alarm ∧ L[i].attrs = s.lamps[i].attrs)
    (record : LampsOk s → ∀ i : Lamp, L[i].Ok) : Settles s { s with lamps := L } :=
  (works_lamps s L (fun i => (same i).1) (fun i => by rw [(same i).2]; exact .inr) record).settles rfl
    fun i => ⟨(same i).1, congrArg Attributes.hornClass (same i).2⟩

theorem settles_unforceAll (s : State) :
    Settles s { s with lamps := bankMap (fun _ r => { r with override := none }) s.lamps } := by
  refine settles_lamps s _ (fun i => ?_) fun ok i => ?_ <;> rw [Fin.getElem_fin, bankMap_getElem]
  · exact ⟨rfl, rfl⟩
  · exact ⟨(ok.record i).1, (ok.record i).2, (ok.record i).3, (ok.record i).4⟩

/-- A lamp record given its attributes (R15, R16, R18). -/
def LampRecord.given (r : LampRecord) (new : Attributes) : LampRecord :=
  { r with
    attrs := new
    suspect := false
    alarm := if r.attrs.alarmCapable && !new.alarmCapable then .normal else r.alarm
    health := if r.attrs.supervised = new.supervised then r.health
      else if new.supervised then .unknown else .unsupervised
    runCount := if r.attrs.supervised = new.supervised then r.runCount else 0 }

theorem LampRecord.Ok.given_ok {r : LampRecord} (ok : r.Ok) (new : Attributes) : (r.given new).Ok := by
  have agrees := ok.supervised
  refine ⟨?_, ?_, fun h => (by cases h), ok.rendering⟩ <;> simp only [LampRecord.given] <;> split
  · exact ok.runCount
  · exact Nat.zero_le _
  · rename_i same
    rw [← same]
    exact agrees
  · cases new.supervised <;> simp

/-- The first part of SET ATTRIBUTES on one lamp: it goes to NORMAL if it is no longer alarm-capable (R16). -/
def State.silencedBy (s : State) (x : Lamp × Attributes) : State :=
  if s.lamps[x.1].attrs.alarmCapable && !x.2.alarmCapable then s.setAlarm x.1 .normal else s

/-- The second part: its failure list entry, if it is no longer supervised (R18). -/
def State.delistedBy (s t : State) (x : Lamp × Attributes) : State :=
  if s.lamps[x.1].attrs.supervised && !x.2.supervised then t.becameGood x.1 else t

theorem State.silencedBy_lamps (s : State) (x : Lamp × Attributes) (k : Lamp) :
    (s.silencedBy x).lamps[k] = if k = x.1 then { s.lamps[x.1] with
      alarm := if s.lamps[x.1].attrs.alarmCapable && !x.2.alarmCapable then .normal else s.lamps[x.1].alarm }
      else s.lamps[k] := by
  unfold silencedBy
  split
  · exact s.setAlarm_lamps x.1 k .normal
  · split
    · subst k; rfl
    · rfl

theorem State.delistedBy_lamps (s t : State) (x : Lamp × Attributes) : (s.delistedBy t x).lamps = t.lamps := by
  unfold delistedBy
  split <;> rfl

theorem State.giveAttributes_eq (s : State) (x : Lamp × Attributes) :
    s.giveAttributes x = (s.delistedBy (s.silencedBy x) x).setLamp x.1 (s.lamps[x.1].given x.2) := by
  have record : (s.delistedBy (s.silencedBy x) x).lamps[x.1] = { s.lamps[x.1] with
      alarm := if s.lamps[x.1].attrs.alarmCapable && !x.2.alarmCapable then .normal else s.lamps[x.1].alarm } := by
    rw [delistedBy_lamps, silencedBy_lamps, if_pos rfl]
  show (s.delistedBy (s.silencedBy x) x).setLamp x.1 (if s.lamps[x.1].attrs.supervised = x.2.supervised then
    { (s.delistedBy (s.silencedBy x) x).lamps[x.1] with attrs := x.2, suspect := false }
    else { (s.delistedBy (s.silencedBy x) x).lamps[x.1] with
      attrs := x.2, suspect := false, health := if x.2.supervised then .unknown else .unsupervised, runCount := 0 }) = _
  rw [record]
  unfold LampRecord.given
  split <;> rfl

theorem State.giveAttributes_lamps (s : State) (x : Lamp × Attributes) (k : Lamp) :
    (s.giveAttributes x).lamps[k] = if k = x.1 then s.lamps[x.1].given x.2 else s.lamps[k] := by
  rw [giveAttributes_eq, setLamp_lamps, Vector_set_fin, delistedBy_lamps, silencedBy_lamps]
  split <;> rfl

/-- SET ATTRIBUTES on one lamp: the horn is left to the end of the batch (R17). -/
theorem works_giveAttributes (s : State) (x : Lamp × Attributes) : Works s (s.giveAttributes x) := by
  rw [State.giveAttributes_eq]
  have quiet : Works s (s.silencedBy x) := by
    unfold State.silencedBy
    split
    · exact works_setAlarm s x.1 .normal fun h => absurd rfl h
    · exact .refl s
  have told : Works (s.silencedBy x) (s.delistedBy (s.silencedBy x) x) := by
    unfold State.delistedBy
    split
    · exact (settles_becameGood _ _).toWorks
    · exact .refl _
  refine (quiet.trans told).trans (works_setLamp _ x.1 _ ?_ (fun incapable => ?_) fun ok => ?_) <;>
    rw [State.delistedBy_lamps, State.silencedBy_lamps, if_pos rfl] at *
  · rfl
  · cases able : s.lamps[x.1].attrs.alarmCapable with
    | false => exact .inr rfl
    | true =>
      have lost : x.2.alarmCapable = false := incapable
      left
      simp only [LampRecord.given, able, lost, Bool.not_false, Bool.and_self, if_true]
  · have before : s.lamps[x.1].Ok := ⟨ok.1, ok.2, ok.3, ok.4⟩
    exact before.given_ok x.2

/-! ### Alarms -/

/-- What RAISE, CLEAR and ACKNOWLEDGE do to one lamp's record: its alarm state takes the event's transition (R63). -/
def MovesAlarm (event : AlarmState → AlarmState) (apply : State → Lamp → State) : Prop :=
  ∀ (s : State) (i k : Lamp), (apply s i).lamps[k] =
    if k = i then { s.lamps[i] with alarm := event s.lamps[i].alarm } else s.lamps[k]

theorem MovesAlarm.of_setAlarm {event : AlarmState → AlarmState} {apply : State → Lamp → State}
    (stays : ∀ s i, event s.lamps[i].alarm = s.lamps[i].alarm → apply s i = s)
    (moves : ∀ s i, event s.lamps[i].alarm ≠ s.lamps[i].alarm →
      (apply s i).lamps = (s.setAlarm i (event s.lamps[i].alarm)).lamps) : MovesAlarm event apply := by
  intro s i k
  by_cases same : event s.lamps[i].alarm = s.lamps[i].alarm
  · rw [stays s i same, same]
    split
    · subst k; rfl
    · rfl
  · rw [moves s i same]
    exact s.setAlarm_lamps i k _

theorem raiseLamp_movesAlarm (p : Port) : MovesAlarm AlarmState.raised (State.raiseLamp p) :=
  .of_setAlarm (fun _ _ same => if_pos same) fun s i moved => by rw [State.raiseLamp, if_neg moved]; rfl

theorem clearLamp_movesAlarm : MovesAlarm AlarmState.cleared State.clearLamp :=
  .of_setAlarm (fun _ _ same => if_pos same) fun s i moved => by rw [State.clearLamp, if_neg moved]

theorem ackLamp_movesAlarm (p : Port) : MovesAlarm AlarmState.acknowledged (State.ackLamp p) :=
  .of_setAlarm (fun _ _ same => if_pos same) fun s i moved => by rw [State.ackLamp, if_neg moved]; rfl

/-- A batch moves each of its lamps once. -/
theorem MovesAlarm.foldl {event : AlarmState → AlarmState} {apply : State → Lamp → State} (h : MovesAlarm event apply)
    {l : List Lamp} (nodup : l.Nodup) (s : State) (k : Lamp) :
    (l.foldl apply s).lamps[k] =
      if k ∈ l then { s.lamps[k] with alarm := event s.lamps[k].alarm } else s.lamps[k] := by
  induction l generalizing s with
  | nil => simp
  | cons i is ih =>
    obtain ⟨fresh, nodup⟩ := List.nodup_cons.1 nodup
    rw [List.foldl_cons, ih nodup, h]
    by_cases same : k = i
    · subst k; simp [fresh]
    · simp [same]

theorem works_raiseLamp (p : Port) (s : State) (i : Lamp) (capable : s.lamps[i].attrs.alarmCapable = true) :
    Works s (State.raiseLamp p s i) := by
  unfold State.raiseLamp
  dsimp only
  split
  · exact .refl s
  · exact ((works_setAlarm s i _ fun _ => .inl capable).trans (works_raise _ _)).trans (works_report _ rfl _ _)

theorem works_raiseLamps (p : Port) (l : List Lamp) (s : State)
    (capable : ∀ i ∈ l, s.lamps[i].attrs.alarmCapable = true) : Works s (l.foldl (State.raiseLamp p) s) := by
  induction l generalizing s with
  | nil => exact .refl s
  | cons i is ih =>
    refine (works_raiseLamp p s i (capable i (by simp))).trans (ih _ fun k hk => ?_)
    rw [raiseLamp_movesAlarm]
    split
    · exact capable i (by simp)
    · exact capable k (by simp [hk])

theorem works_clearLamp (s : State) (i : Lamp) : Works s (s.clearLamp i) := by
  unfold State.clearLamp
  dsimp only
  split
  · exact .refl s
  · rename_i moved
    exact works_setAlarm s i _ fun _ => .inr fun normal => moved (by rw [normal]; rfl)

theorem works_ackLamp (p : Port) (s : State) (i : Lamp) : Works s (State.ackLamp p s i) := by
  unfold State.ackLamp
  dsimp only
  split
  · exact .refl s
  · rename_i moved
    refine Works.trans ?_ (works_report _ rfl _ _)
    exact works_setAlarm s i _ fun _ => .inr fun normal => moved (by rw [normal]; rfl)

theorem AlarmState.raised_eq_new {a : AlarmState} (h : a.raised ≠ a) : a.raised = .new := by
  cases a <;> simp_all [AlarmState.raised]

/-- RAISE over a batch whose lamps are all alarm-capable, to the settling of the horn (R66, R74). -/
theorem settles_raiseLamps (p : Port) {l : List Lamp} (nodup : l.Nodup) (s : State)
    (capable : ∀ i ∈ l, s.lamps[i].attrs.alarmCapable = true) :
    Settles s ((l.foldl (State.raiseLamp p) s).settleHorn (s.soundEnters l)) := by
  refine (works_raiseLamps p l s capable).settleHorn _ fun enters => ?_
  simp only [State.soundEnters, List.any_eq_true, Bool.and_eq_true, decide_eq_true_eq] at enters
  obtain ⟨i, mem, moved, sound⟩ := enters
  refine ⟨i, ?_⟩
  rw [(raiseLamp_movesAlarm p).foldl nodup, if_pos mem]
  exact ⟨AlarmState.raised_eq_new moved, sound⟩

/-! ### Zones -/

/-- A zone record replaced, by what each invariant asks of the new one. -/
theorem works_setZone (s : State) (z : ZoneNo) (r : ZoneRecord)
    (owner : OwnershipOk s → ∀ p, r.owner = some p → r.enabled = true ∧ p ≠ .d ∧ (s.links.get p).state = .live)
    (range : ZonesOk s → rangeOk r.base r.size = true)
    (disabled : ZonesOk s → r.enabled = false →
      r.owner = none ∧ r.stale = true ∧ r.summary = none ∧ r.unack = 0 ∧ r.standing = 0)
    (apart : ZonesOk s → r.enabled = true → ∀ y, y ≠ z → s.zones[y].enabled = true →
      overlap r.base r.size s.zones[y].base s.zones[y].size = false)
    (counts : ZonesOk s → AlarmsOk s → r.enabled = true →
      r.unack = s.lampsIn r.base r.size [.new, .returned] ∧ r.standing = s.lampsIn r.base r.size [.standing]) :
    Works s (s.setZone z r) := by
  refine works_zones s _ (fun ok => ⟨fun y p => ?_, ok.holder, ok.poster, ok.empty, ok.word⟩)
    (fun ok => ⟨fun y => ?_, fun y => ?_, fun x y distinct => ?_⟩) (fun zok ok => ⟨fun y => ?_, fun y => ?_, ok.capable⟩)
  · rw [Vector_set_fin]
    split
    · exact owner ok p
    · exact ok.owner y p
  · rw [Vector_set_fin]
    split
    · exact range ok
    · exact ok.range y
  · rw [Vector_set_fin]
    split
    · exact disabled ok
    · exact ok.disabled y
  · rw [Vector_set_fin, Vector_set_fin]
    split
    · subst x
      rw [if_neg (Ne.symm distinct)]
      exact fun on => apart ok on y (Ne.symm distinct)
    · rename_i away
      split
      · intro on here
        have := apart ok here x away on
        rw [overlap, Bool.and_comm]
        exact this
      · exact ok.disjoint x y distinct
  · rw [Vector_set_fin]
    split
    · exact fun on => (counts zok ok on).1
    · exact ok.unack y
  · rw [Vector_set_fin]
    split
    · exact fun on => (counts zok ok on).2
    · exact ok.standing y

/-- A change of a zone's owner and stale flag alone. -/
theorem works_setOwner (s : State) (z : ZoneNo) (o : Option Port) (stale : Bool)
    (owner : OwnershipOk s → ∀ p, o = some p → s.zones[z].enabled = true ∧ p ≠ .d ∧ (s.links.get p).state = .live)
    (disabled : ZonesOk s → s.zones[z].enabled = false → o = none ∧ stale = true) :
    Works s (s.setZone z { s.zones[z] with owner := o, stale := stale }) :=
  works_setZone s z _ owner (fun ok => ok.range z)
    (fun ok off => ⟨(disabled ok off).1, (disabled ok off).2, (ok.disabled z off).2.2⟩)
    (fun ok on y distinct => ok.disjoint z y (Ne.symm distinct) on)
    (fun _ ok on => ⟨ok.unack z on, ok.standing z on⟩)

theorem lampsFrom_eq (first count : Nat) : lampsFrom first count = ((List.finRange 4096).drop first).take count := by
  induction count with
  | zero => rfl
  | succ n ih =>
    have member : (List.finRange 4096)[first + n]? = lampOf? (first + n) := by
      unfold lampOf?
      split
      · rw [List.getElem?_eq_getElem (by rwa [List.length_finRange]), List.getElem_finRange]
        rfl
      · rw [List.getElem?_eq_none (by rw [List.length_finRange]; omega)]
    rw [List.take_add_one, ← ih, List.getElem?_drop, member]
    simp only [lampsFrom, List.range_succ, List.filterMap_append, List.filterMap_cons, List.filterMap_nil]
    cases lampOf? (first + n) <;> rfl

theorem State.range_eq (s : State) (base size : Nat) :
    s.range base size = (lampsFrom base size).map fun i => s.lamps[i] := by
  have all : s.lamps.toList = (List.finRange 4096).map fun i => s.lamps[i] := by
    refine List.ext_getElem (by simp) fun k _ _ => ?_
    simp
  rw [range, all, ← List.map_drop, ← List.map_take, lampsFrom_eq]

theorem sum_map_indicator {α : Type} (p : α → Bool) (l : List α) :
    (l.map fun a => if p a then 1 else 0).sum = l.countP p := by
  induction l with
  | nil => rfl
  | cons a as ih => rw [List.map_cons, List.sum_cons, ih, List.countP_cons, Nat.add_comm]

/-- DEFINE ZONE's recount is the count of the alarm states in the range (R33, R71). -/
theorem State.countUnack_eq (s : State) (base size : Nat) :
    s.countUnack base size = s.lampsIn base size [.new, .returned] := by
  rw [countUnack, range_eq, List.map_map, lampsIn, ← sum_map_indicator]
  simp only [Function.comp_def, AlarmState.unack_eq, decide_eq_true_eq]

theorem State.countStanding_eq (s : State) (base size : Nat) :
    s.countStanding base size = s.lampsIn base size [.standing] := by
  rw [countStanding, range_eq, List.map_map, lampsIn, ← sum_map_indicator]
  simp only [Function.comp_def, AlarmState.stands_eq, decide_eq_true_eq]

/-- A definition whose range is legal and overlaps no other enabled zone keeps the table (R26, R32, R33). -/
theorem works_define (s : State) (z : ZoneNo) (base size : Nat) (t : Treatment) (m : Option Lamp)
    (range : rangeOk base size = true) (free : s.overlapping z base size = none) :
    Works s (s.setZone z (s.defined z base size t m)) := by
  refine works_setZone s z _ (fun ok p owned => ?_) (fun _ => range) (fun _ off => by cases off)
    (fun _ _ y distinct on => ?_) (fun _ _ _ => ⟨s.countUnack_eq base size, s.countStanding_eq base size⟩)
  · exact ⟨rfl, (ok.owner z p owned).2⟩
  · have := List.find?_eq_none.1 free y (List.mem_finRange y)
    rw [Bool.eq_false_iff]
    exact fun meets => this (by
      simp only [State.defined] at meets
      simp only [ne_eq, distinct, not_false_eq_true, decide_true, on, meets, Bool.and_self])

/-! ### Links and the lapse -/

/-- A port's link record replaced, by what each invariant asks of the new one. -/
theorem works_setLink (s : State) (p : Port) (l : LinkRecord)
    (ownership : OwnershipOk s → l.state = .silent → (∀ z : ZoneNo, s.zones[z].owner ≠ some p) ∧
      s.hold.holder ≠ some p ∧ (s.slot.poster = some p → s.slot.state ≠ .posted))
    (record : LinksOk s → (1 ≤ l.timeout ∧ l.timeout ≤ 300) ∧ (-128 ≤ l.allowance ∧ l.allowance ≤ 127) ∧
      ∀ n, l.timer = some n → 1 ≤ n ∧ n ≤ 300) : Works s (s.setLink p l) := by
  have live : ∀ q, (s.links.get q).state = .live → (q = p → l.state ≠ .silent) →
      ((s.links.set p l).get q).state = .live := by
    intro q was heard
    rw [PerPort.get_set]
    split
    · cases state : l.state with
      | live => rfl
      | silent => exact absurd state (heard ‹_›)
    · exact was
  refine works_links s _ (fun ok => ⟨fun z q owned => ?_, fun q held => ?_, fun q posted => ?_, ok.empty, ok.word⟩)
    fun ok q => ?_
  · obtain ⟨on, telemetry, was⟩ := ok.owner z q owned
    exact ⟨on, telemetry, live q was fun same silent => (ownership ok silent).1 z (same ▸ owned)⟩
  · exact live q (ok.holder q held) fun same silent => (ownership ok silent).2.1 (same ▸ held)
  · obtain ⟨telemetry, was⟩ := ok.poster q posted
    exact ⟨telemetry, fun stands => live q (was stands) fun same silent => (ownership ok silent).2.2 (same ▸ posted) stands⟩
  · simp only [PerPort.get_set]
    split
    · exact record ok
    · exact ok q

/-- A link record replaced by one that is not SILENT where it was LIVE. -/
theorem works_heard (s : State) (p : Port) (l : LinkRecord) (state : l.state = (s.links.get p).state ∨ l.state = .live)
    (record : LinksOk s → (1 ≤ l.timeout ∧ l.timeout ≤ 300) ∧ (-128 ≤ l.allowance ∧ l.allowance ≤ 127) ∧
      ∀ n, l.timer = some n → 1 ≤ n ∧ n ≤ 300) : Works s (s.setLink p l) := by
  refine works_setLink s p l (fun ok silent => ?_) record
  have was : (s.links.get p).state = .silent := by
    rcases state with same | live
    · rw [← same, silent]
    · cases live.symm.trans silent
  have deaf : (s.links.get p).state ≠ .live := fun live => by cases was.symm.trans live
  exact ⟨fun z owned => deaf (ok.owner z p owned).2.2, fun held => deaf (ok.holder p held),
    fun posted stands => deaf ((ok.poster p posted).2 stands)⟩

theorem works_lapseZone (p : Port) (s : State) (z : ZoneNo) : Works s (State.lapseZone p s z) := by
  unfold State.lapseZone
  split
  · refine Works.trans (Works.trans ?_ (works_raise _ _)) (works_report _ rfl _ _)
    exact works_setOwner s z none true (fun _ _ h => by cases h) fun _ _ => ⟨rfl, rfl⟩
  · exact .refl s

theorem works_endHold (s : State) : Works s s.endHold :=
  (works_hold s .free (fun _ h => by cases h) fun _ => rfl).trans (works_raise _ _)

theorem works_lapseHold (s : State) (p : Port) : Works s (s.lapseHold p) := by
  unfold State.lapseHold
  split
  · exact works_endHold s
  · exact .refl s

theorem works_lapseSlot (s : State) (p : Port) : Works s (s.lapseSlot p) := by
  unfold State.lapseSlot
  split
  · rename_i posted
    refine Works.trans ?_ (works_raise _ _)
    refine works_slot s _ fun ok => ⟨ok.owner, ok.holder, fun q poster => ⟨(ok.poster q poster).1, fun h => by cases h⟩,
      ?_, fun h => by cases h⟩
    simp [posted.2]
  · exact .refl s

theorem works_lapse (s : State) (p : Port) : Works s (s.lapse p) :=
  (((Works.foldl (works_lapseZone p) _ s).trans (works_lapseHold _ p)).trans (works_lapseSlot _ p)).trans
    (works_raise _ _)

/-- Every zone the lapsing port owns loses its owner and is stale; the others stay (R50). -/
theorem State.lapseZones_zones (p : Port) (l : List ZoneNo) (s : State) (z : ZoneNo) :
    (l.foldl (State.lapseZone p) s).zones[z] =
      if z ∈ l ∧ s.zones[z].owner = some p then { s.zones[z] with owner := none, stale := true } else s.zones[z] := by
  induction l generalizing s with
  | nil => simp
  | cons y ys ih =>
    rw [List.foldl_cons, ih]
    have here : (State.lapseZone p s y).zones[z] =
        if z = y ∧ s.zones[y].owner = some p then { s.zones[y] with owner := none, stale := true } else s.zones[z] := by
      unfold lapseZone
      by_cases owned : s.zones[y].owner = some p
      · simp only [owned, if_true, report_zones, raise_zones, setZone_zones, Vector_set_fin, and_true]
      · simp only [owned, if_false, and_false]
    rw [here]
    by_cases same : z = y
    · subst z
      by_cases owned : s.zones[y].owner = some p
      · simp only [owned, and_self, if_true, reduceCtorEq, and_false, if_false, List.mem_cons, true_or]
      · simp only [owned, and_false, if_false]
    · simp only [same, false_and, if_false, List.mem_cons, false_or]

theorem State.lapseHold_hold (s : State) (p : Port) :
    (s.lapseHold p).hold = if s.hold.holder = some p then .free else s.hold := by
  unfold lapseHold
  split <;> rfl

theorem State.lapseSlot_slot (s : State) (p : Port) :
    (s.lapseSlot p).slot =
      if s.slot.state = .posted ∧ s.slot.poster = some p then { s.slot with state := .lapsed } else s.slot := by
  unfold lapseSlot
  split <;> rfl

theorem State.lapseHold_frame (s : State) (p : Port) :
    s.lapseHold p = { s with hold := (s.lapseHold p).hold, notices := (s.lapseHold p).notices } := by
  unfold lapseHold
  split <;> rfl

theorem State.lapseSlot_frame (s : State) (p : Port) :
    s.lapseSlot p = { s with slot := (s.lapseSlot p).slot, notices := (s.lapseSlot p).notices } := by
  unfold lapseSlot
  split <;> rfl

theorem State.lapseZones_frame (p : Port) (l : List ZoneNo) (s : State) :
    l.foldl (State.lapseZone p) s = { s with
      zones := (l.foldl (State.lapseZone p) s).zones, notices := (l.foldl (State.lapseZone p) s).notices,
      counters := (l.foldl (State.lapseZone p) s).counters } := by
  induction l generalizing s with
  | nil => rfl
  | cons z zs ih => rw [List.foldl_cons, ih, lapseZone_frame]

theorem State.lapse_zones (s : State) (p : Port) (z : ZoneNo) :
    (s.lapse p).zones[z] =
      if s.zones[z].owner = some p then { s.zones[z] with owner := none, stale := true } else s.zones[z] := by
  have zones := State.lapseZones_zones p (List.finRange 64) s z
  simp only [List.mem_finRange, true_and] at zones
  rw [← zones, lapse, raise_zones, lapseSlot_frame, lapseHold_frame]

theorem State.lapse_hold (s : State) (p : Port) :
    (s.lapse p).hold = if s.hold.holder = some p then .free else s.hold := by
  have frame := State.lapseZones_frame p (List.finRange 64) s
  unfold lapse
  generalize (List.finRange 64).foldl (State.lapseZone p) s = u at frame ⊢
  rw [raise_hold, lapseSlot_frame]
  show (u.lapseHold p).hold = _
  rw [lapseHold_hold, frame]

theorem State.lapse_slot (s : State) (p : Port) :
    (s.lapse p).slot =
      if s.slot.state = .posted ∧ s.slot.poster = some p then { s.slot with state := .lapsed } else s.slot := by
  rw [lapse, raise_slot, lapseSlot_slot, lapseHold_frame, lapseZones_frame]

/-- The lapse does not look at the links. -/
theorem State.lapse_setLink (s : State) (p : Port) (l : LinkRecord) :
    (s.setLink p l).lapse p = (s.lapse p).setLink p l := by
  have zone : ∀ (s : State) (z : ZoneNo), State.lapseZone p (s.setLink p l) z = (State.lapseZone p s z).setLink p l := by
    intro s z
    unfold lapseZone
    rw [setLink_zones]
    split <;> rfl
  have zones : ∀ (ys : List ZoneNo) (s : State), ys.foldl (State.lapseZone p) (s.setLink p l) =
      (ys.foldl (State.lapseZone p) s).setLink p l := by
    intro ys
    induction ys with
    | nil => exact fun _ => rfl
    | cons y ys ih => intro s; rw [List.foldl_cons, List.foldl_cons, zone, ih]
  have hold : ∀ s : State, (s.setLink p l).lapseHold p = (s.lapseHold p).setLink p l := by
    intro s
    unfold lapseHold
    rw [setLink_hold]
    split <;> rfl
  have slot : ∀ s : State, (s.setLink p l).lapseSlot p = (s.lapseSlot p).setLink p l := by
    intro s
    unfold lapseSlot
    rw [setLink_slot]
    split <;> rfl
  unfold lapse
  rw [zones, hold, slot]
  generalize (((List.finRange 64).foldl (State.lapseZone p) s).lapseHold p).lapseSlot p = u
  rfl

theorem LinkRecord.expired_ok {l : LinkRecord}
    (ok : (1 ≤ l.timeout ∧ l.timeout ≤ 300) ∧ (-128 ≤ l.allowance ∧ l.allowance ≤ 127) ∧
      ∀ n, l.timer = some n → 1 ≤ n ∧ n ≤ 300) :
    (1 ≤ l.expired.timeout ∧ l.expired.timeout ≤ 300) ∧ (-128 ≤ l.expired.allowance ∧ l.expired.allowance ≤ 127) ∧
      ∀ n, l.expired.timer = some n → 1 ≤ n ∧ n ≤ 300 := by
  obtain ⟨timeout, allowance, -⟩ := ok
  refine ⟨timeout, ?_, fun n h => by cases h; exact timeout⟩
  simp only [LinkRecord.expired]
  split <;> omega

/-- An expiry of the silence timer, with the lapse where the port goes SILENT (R48, R50). -/
theorem works_expiry (s : State) (p : Port) :
    Works s (if (s.links.get p).state = .live ∧ (s.links.get p).expired.state = .silent then
      (s.setLink p (s.links.get p).expired).lapse p else s.setLink p (s.links.get p).expired) := by
  split
  · rw [State.lapse_setLink]
    refine (works_lapse s p).trans (works_setLink _ p _ (fun _ _ => ⟨fun z owned => ?_, fun held => ?_, fun _ stands => ?_⟩)
      fun ok => LinkRecord.expired_ok ?_)
    · rw [State.lapse_zones] at owned
      split at owned
      · cases owned
      · exact absurd owned ‹_›
    · rw [State.lapse_hold] at held
      split at held
      · cases held
      · exact absurd held ‹_›
    · rename_i poster
      rw [State.lapse_slot] at stands poster
      split at stands
      · cases stands
      · rename_i other
        rw [if_neg other] at poster
        exact other ⟨stands, poster⟩
    · have := ok p
      rw [State.lapse_frame] at this
      exact this
  · rename_i lives
    refine works_heard s p _ ?_ fun ok => LinkRecord.expired_ok (ok p)
    cases was : (s.links.get p).state with
    | live =>
      cases now : (s.links.get p).expired.state with
      | live => exact .inr rfl
      | silent => exact absurd ⟨was, now⟩ lives
    | silent =>
      left
      simp [LinkRecord.expired, was]

end Sys2Proof.Machine
end

section
/-! SUPPORT. What the pieces of the scan keep: strings, deliveries, frame starts, scan states, hold and lamp test
(chapters 5 and 6). -/

namespace Sys2Proof.Machine

/-! ### Strings -/

/-- A string record within its ranges (R105, R107). -/
def StringRecord.Ok (r : StringRecord) : Prop :=
  r.count ≤ 32 ∧ r.lastAnswer ≤ 63 ∧ (r.state = .unused ↔ r.count = 0) ∧ ∀ c, r.pending = some c → c ≤ 32

/-- A string record replaced, and the frame's progress with it. -/
theorem settles_string (s : State) (n : StringNo) (r : StringRecord) (progress : FrameProgress)
    (record : ScanOk s → r.Ok) (dark : s.progress = .none ↔ progress = .none)
    (begun : ∀ j, progress = .driving j → s.progress = .driving j)
    (left : ScanOk s → ∀ l, progress = .answering l → l.Nodup ∧ ∀ k ∈ l, k ≠ n → 0 < s.strings[k].count)
    (still : ScanOk s → ∀ l, progress = .answering l → n ∈ l → 0 < r.count) :
    Settles s { s with strings := s.strings.set n.val r n.isLt, progress := progress } := by
  refine settles_scan s s.scan s.session progress s.nextFrame s.latched s.slowPhase s.fastPhase s.frameCount s.timing
    s.pendingTiming s.holdLimit s.testLimit _ fun ok => ⟨fun d => ?_, fun run => ?_, fun j h => ok.begun j (begun j h),
      fun l h => ?_, ok.timing, ok.limits, fun k => ?_⟩
  · obtain ⟨hold, session, none, next, off⟩ := ok.dark d
    exact ⟨hold, session, dark.1 none, next, off⟩
  · obtain ⟨some, rest⟩ := ok.running run
    exact ⟨fun none => some (dark.2 none), rest⟩
  · obtain ⟨nodup, counts⟩ := left ok l h
    refine ⟨nodup, fun k mem => ?_⟩
    rw [Vector_set_fin]
    split
    · subst k; exact still ok l h mem
    · exact counts k mem ‹_›
  · rw [Vector_set_fin]
    split
    · exact record ok
    · exact ok.strings k

theorem settles_setString (s : State) (n : StringNo) (r : StringRecord) (record : ScanOk s → r.Ok)
    (still : ScanOk s → ∀ l, s.progress = .answering l → n ∈ l → 0 < r.count) : Settles s (s.setString n r) :=
  settles_string s n r s.progress record Iff.rfl (fun _ => id)
    (fun ok l h => ⟨(ok.left l h).1, fun k mem _ => (ok.left l h).2 k mem⟩) still

theorem settles_removeLamp (s : State) (i : Lamp) : Settles s (s.removeLamp i) := by
  refine ((settles_checkLamp s i).trans ?_).trans (settles_dropFailure _ i)
  refine settles_setLamp _ i _ rfl rfl fun ok => ⟨Nat.zero_le _, ?_, ok.suspect, ok.rendering⟩
  have agrees := ok.supervised
  dsimp only
  split
  · rename_i supervised
    exact ⟨fun h => (by cases supervised.symm.trans h), fun h => by cases h⟩
  · exact agrees

theorem StringRecord.withCount_ok {r : StringRecord} {count : Nat} (ok : r.Ok) (bound : count ≤ 32) :
    (r.withCount count).Ok := by
  obtain ⟨-, answer, -, -⟩ := ok
  unfold StringRecord.withCount
  refine ⟨bound, ?_, ?_, fun c h => by cases h⟩
  · dsimp only
    split <;> omega
  · dsimp only
    split <;> simp_all

theorem settles_putInForce (s : State) (n : StringNo) (count : Nat) (bound : ScanOk s → count ≤ 32)
    (between : ScanOk s → ∀ l, s.progress ≠ .answering l) : Settles s (s.putInForce n count) :=
  (settles_setString s n _ (fun ok => StringRecord.withCount_ok (ok.strings n) (bound ok))
    fun ok l h => absurd h (between ok l)).trans (Settles.foldl settles_removeLamp _ _)

theorem State.putInForce_progress (s : State) (n : StringNo) (count : Nat) :
    (s.putInForce n count).progress = s.progress := by
  rw [putInForce_frame]

theorem settles_forcePending (s : State) (between : ∀ l, s.progress ≠ .answering l) : Settles s s.forcePending := by
  unfold State.forcePending
  generalize List.finRange 16 = numbers
  induction numbers generalizing s with
  | nil => exact .refl s
  | cons n ns ih =>
    rw [List.foldl_cons]
    split
    · exact ih s between
    · rename_i count pending
      refine (settles_putInForce s n count (fun ok => (ok.strings n).2.2.2 count pending) fun _ => between).trans (ih _ ?_)
      rw [State.putInForce_progress]
      exact between

/-! ### Deliveries (R113, R115, R116) -/

theorem settles_failLamp (s : State) (i : Lamp) (k : FailureKind) (supervised : s.lamps[i].health ≠ .unsupervised) :
    Settles s (s.failLamp i k) := by
  refine (Settles.trans ?_ (settles_report _ rfl _ _)).trans (settles_declare _ i k)
  refine settles_setLamp s i _ rfl rfl fun ok => ⟨Nat.zero_le _, ?_, ok.suspect, ok.rendering⟩
  have agrees := ok.supervised
  cases k <;> simp_all

theorem settles_healLamp (s : State) (i : Lamp) (supervised : s.lamps[i].health ≠ .unsupervised) :
    Settles s (s.healLamp i) := by
  refine Settles.trans ?_ (settles_becameGood _ i)
  refine settles_setLamp s i _ rfl rfl fun ok => ⟨Nat.zero_le _, ?_, ok.suspect, ok.rendering⟩
  have agrees := ok.supervised
  simp_all

/-- The run count of a lamp rewritten within its range (R117). -/
theorem settles_setRunCount (s : State) (i : Lamp) (run : Nat) (bound : run ≤ 15) :
    Settles s (s.setLamp i { s.lamps[i] with runCount := run }) :=
  settles_setLamp s i _ rfl rfl fun ok => ⟨bound, ok.supervised, ok.suspect, ok.rendering⟩

theorem settles_mismatch (s : State) (i : Lamp) (k : FailureKind) (supervised : s.lamps[i].health ≠ .unsupervised) :
    Settles s (s.mismatch i k) := by
  unfold State.mismatch
  dsimp only
  split
  · exact settles_failLamp s i k supervised
  · exact settles_setRunCount s i _ (Nat.min_le_left _ _)

theorem settles_recovery (s : State) (i : Lamp) (supervised : s.lamps[i].health ≠ .unsupervised) :
    Settles s (if min 15 (s.lamps[i].runCount + 1) ≥ s.recoveryThreshold then s.healLamp i
      else s.setLamp i { s.lamps[i] with runCount := min 15 (s.lamps[i].runCount + 1) }) := by
  split
  · exact settles_healLamp s i supervised
  · exact settles_setRunCount s i _ (Nat.min_le_left _ _)

theorem settles_judgeLamp (s : State) (i : Lamp) (o : Observation) : Settles s (s.judgeLamp i o) := by
  cases o with
  | neutral => simp only [State.judgeLamp]; exact .refl s
  | healthy =>
    cases health : s.lamps[i].health with
    | unknown => simpa only [State.judgeLamp, health] using settles_healLamp s i (by rw [health]; decide)
    | good => simpa only [State.judgeLamp, health] using settles_setRunCount s i 0 (Nat.zero_le _)
    | opened | stuck => simpa only [State.judgeLamp, health] using settles_recovery s i (by rw [health]; decide)
    | unsupervised => simp only [State.judgeLamp, health]; exact .refl s
  | openMismatch | stuckMismatch =>
    cases health : s.lamps[i].health with
    | unknown | good => simpa only [State.judgeLamp, health] using settles_mismatch s i _ (by rw [health]; decide)
    | opened | stuck => simpa only [State.judgeLamp, health] using settles_setRunCount s i 0 (Nat.zero_le _)
    | unsupervised => simp only [State.judgeLamp, health]; exact .refl s

theorem settles_observe (s : State) (i : Lamp) (o : Sensed) : Settles s (s.observe i o) := by
  unfold State.observe
  dsimp only
  split
  · exact (settles_checkLamp s i).trans (settles_judgeLamp _ i _)
  · exact settles_checkLamp s i

theorem settles_deliver (s : State) (n : StringNo) (sensed : List Sensed) : Settles s (s.deliver n sensed) := by
  unfold State.deliver
  refine Settles.foldl (fun s x => ?_) _ s
  exact settles_observe s x.1 _

/-- A string's answer, with its number taken off those still to come (R108, R109). -/
theorem settles_answer (s : State) (n : StringNo) (answering : Nat) (sensed : List Sensed) (left : List StringNo)
    (progress : s.progress = .answering left) (mem : n ∈ left) :
    Settles s (State.answer { s with progress := .answering (left.erase n) } n answering sensed) := by
  have string : ∀ state, state ≠ .unused → Settles s (State.setString { s with progress := .answering (left.erase n) } n
      { s.strings[n] with state := state, lastAnswer := min 63 answering }) := by
    intro state used
    refine settles_string s n _ _ (fun ok => ?_) (by simp [progress]) (fun j h => by cases h) (fun ok l h => ?_)
      fun ok l h again => ?_
    · obtain ⟨bound, -, -, pending⟩ := ok.strings n
      have some := (ok.left left progress).2 n mem
      exact ⟨bound, Nat.min_le_left _ _, ⟨fun h => absurd h used, fun h => absurd h (Nat.ne_of_gt some)⟩, pending⟩
    · cases h
      obtain ⟨nodup, counts⟩ := ok.left left progress
      exact ⟨nodup.erase n, fun k hk _ => counts k (List.mem_of_mem_erase hk)⟩
    · exact (ok.left left progress).2 n mem
  unfold State.answer
  dsimp only
  split
  · exact (string .intact (by decide)).trans (settles_deliver _ n sensed)
  · split
    · exact (string .broken (by decide)).trans (settles_reportFault _ .chain (.string n) trivial)
    · exact string .broken (by decide)

/-! ### Level arithmetic (R88, R89) -/

theorem levelZero_le {board group : Nat} (hb : board ≤ 255) (hg : group ≤ 255) : levelZero board group ≤ 255 := by
  have : board * group ≤ 255 * 255 := Nat.mul_le_mul hb hg
  unfold levelZero
  omega

/-- The rendering of a lamp at a fresh snapshot has 0 sub-frames exactly if it is DARK, and never more than 16. -/
theorem State.resolve_ok {s : State} (ok : LampsOk s) (n : Nat) (r : LampRecord) : (s.resolve n r).ok := by
  obtain ⟨hb, ⟨floorLow, floorHigh⟩, groups⟩ := ok.levels
  have l0 := levelZero_le hb (groups r.attrs.dimGroup)
  unfold resolve Rendering.ok
  dsimp only
  generalize levelZero s.levels.board s.levels.groups[r.attrs.dimGroup] = level at l0
  split
  · exact ⟨by omega, by simp [*]⟩
  · rename_i lit
    have count : 1 ≤ subFrameCount (levelTwo level (s.resolveAspect n r).2 s.levels.floor) ∧
        subFrameCount (levelTwo level (s.resolveAspect n r).2 s.levels.floor) ≤ 16 := by
      unfold subFrameCount levelTwo
      split <;> omega
    exact ⟨count.2, ⟨fun h => by omega, fun h => absurd h lit⟩⟩

/-! ### The frame start (R84 to R86, R103) -/

theorem settles_takeSnapshot (s : State) : Settles s s.takeSnapshot := by
  unfold State.takeSnapshot
  split
  · refine settles_display s _ s.drive s.levels s.failThreshold s.recoveryThreshold fun ok =>
      ⟨ok.runCount, ok.supervised, ok.suspect, fun i => ?_, ok.levels, ok.thresholds⟩
    refine ⟨(ok.rendering i).1, ?_, (ok.rendering i).2.2⟩
    rw [Fin.getElem_fin, bankMap_getElem]
    exact State.resolve_ok ok _ _
  · exact .refl s

theorem State.drawn_ok {s : State} (ok : LampsOk s) (i : Lamp) : s.drawn[i].ok := by
  unfold drawn
  split
  · exact (ok.rendering i).2.1
  · rw [Fin.getElem_fin, Vector.getElem_replicate]
    unfold Rendering.ok
    decide

theorem State.driveCount_le (s : State) {r : Rendering} (ok : r.ok) : s.driveCount r ≤ 16 := by
  unfold driveCount
  split
  · exact ok.1
  · omega

theorem settles_draw (s : State) : Settles s s.draw := by
  have lamps : Settles s { s with lamps := bankZip (fun r d => { r with rendering := d }) s.lamps s.drawn } := by
    refine settles_lamps s _ (fun i => ?_) fun ok i => ?_ <;> rw [Fin.getElem_fin, bankZip_getElem]
    · exact ⟨rfl, rfl⟩
    · exact ⟨(ok.record i).1, (ok.record i).2, (ok.record i).3, State.drawn_ok ok i⟩
  refine lamps.trans ((settles_display _ s.snapshot (bankMap (fun _ d => s.driveCount d) s.drawn) s.levels s.failThreshold
    s.recoveryThreshold fun ok =>
      ⟨ok.runCount, ok.supervised, ok.suspect, fun i => ?_, ok.levels, ok.thresholds⟩))
  refine ⟨(ok.rendering i).1, (ok.rendering i).2.1, ?_⟩
  rw [Fin.getElem_fin, bankMap_getElem]
  refine s.driveCount_le ?_
  exact State.drawn_ok ok i

/-- The frame in hand and the time to the next frame start. -/
def State.withFrame (s : State) (progress : FrameProgress) (nextFrame : Option Nat) : State :=
  { s with progress := progress, nextFrame := nextFrame }

section withFrame
variable (s : State) (progress : FrameProgress) (nextFrame : Option Nat)

theorem State.settleHorn_withFrame (entered : Bool) :
    (s.withFrame progress nextFrame).settleHorn entered = (s.settleHorn entered).withFrame progress nextFrame := by
  show (if entered then (s.withFrame progress nextFrame).setHorn .sounding
    else if s.horn = .sounding ∧ s.soundNew = false then (s.withFrame progress nextFrame).setHorn .quiet
    else s.withFrame progress nextFrame) = _
  have horn : ∀ h, (s.withFrame progress nextFrame).setHorn h = (s.setHorn h).withFrame progress nextFrame := by
    intro h
    show (if s.horn = h then s.withFrame progress nextFrame
      else State.raise { s.withFrame progress nextFrame with horn := h } .horn) = _
    unfold setHorn
    split <;> rfl
  unfold settleHorn
  split
  · exact horn _
  · split
    · exact horn _
    · rfl

theorem State.reportFault_withFrame (k : FaultKind) (place : FaultPlace) :
    (s.withFrame progress nextFrame).reportFault k place = (s.reportFault k place).withFrame progress nextFrame := by
  unfold reportFault
  show (if s.fault.mask.has k then _ else if s.fault.flags.any then _ else _) = _
  split
  · rfl
  · split <;> rfl

theorem State.countChange_withFrame (i : Lamp) (was now : AlarmState) :
    (s.withFrame progress nextFrame).countChange i was now = (s.countChange i was now).withFrame progress nextFrame := by
  unfold countChange
  have zone : (s.withFrame progress nextFrame).zoneOf i.val = s.zoneOf i.val := rfl
  rw [zone]
  cases s.zoneOf i.val <;> rfl

/-- A checking read does not look at the frame in hand. -/
theorem State.checkLamp_withFrame (i : Lamp) :
    (s.withFrame progress nextFrame).checkLamp i = (s.checkLamp i).withFrame progress nextFrame := by
  have record : (s.withFrame progress nextFrame).lamps[i] = s.lamps[i] := rfl
  unfold checkLamp
  rw [record]
  cases s.lamps[i].integrity with
  | clean => rfl
  | single => exact reportFault_withFrame (s.setLamp i _) ..
  | double =>
    dsimp only
    rw [← reportFault_withFrame, ← settleHorn_withFrame, countChange_withFrame]
    rfl

theorem State.checkLamps_withFrame (lamps : List Lamp) :
    (s.withFrame progress nextFrame).checkLamps lamps = (s.checkLamps lamps).withFrame progress nextFrame := by
  unfold checkLamps
  induction lamps generalizing s with
  | nil => rfl
  | cons i is ih => rw [List.foldl_cons, List.foldl_cons, checkLamp_withFrame, ih]

theorem State.removeLamp_withFrame (i : Lamp) :
    (s.withFrame progress nextFrame).removeLamp i = (s.removeLamp i).withFrame progress nextFrame := by
  unfold removeLamp
  rw [checkLamp_withFrame]
  rfl

theorem State.putInForce_withFrame (n : StringNo) (count : Nat) :
    (s.withFrame progress nextFrame).putInForce n count = (s.putInForce n count).withFrame progress nextFrame := by
  have removals : ∀ (l : List Lamp) (s : State), l.foldl State.removeLamp (s.withFrame progress nextFrame) =
      (l.foldl State.removeLamp s).withFrame progress nextFrame := by
    intro l
    induction l with
    | nil => exact fun _ => rfl
    | cons i is ih => intro s; rw [List.foldl_cons, List.foldl_cons, removeLamp_withFrame, ih]
  exact removals _ (s.setString n (s.strings[n].withCount count))

theorem State.forcePending_withFrame :
    (s.withFrame progress nextFrame).forcePending = s.forcePending.withFrame progress nextFrame := by
  unfold forcePending
  generalize List.finRange 16 = numbers
  induction numbers generalizing s with
  | nil => rfl
  | cons n ns ih =>
    rw [List.foldl_cons, List.foldl_cons]
    have string : (s.withFrame progress nextFrame).strings[n] = s.strings[n] := rfl
    rw [string]
    cases s.strings[n].pending with
    | none => exact ih s
    | some count =>
      dsimp only
      rw [putInForce_withFrame]
      exact ih _

theorem State.takeSnapshot_withFrame :
    (s.withFrame progress nextFrame).takeSnapshot = s.takeSnapshot.withFrame progress nextFrame := by
  unfold takeSnapshot
  have held : (s.withFrame progress nextFrame).hold = s.hold := rfl
  rw [held]
  cases s.hold <;> rfl

theorem State.draw_withFrame : (s.withFrame progress nextFrame).draw = s.draw.withFrame progress nextFrame := rfl

end withFrame

theorem State.frameReads_frame (s : State) :
    s.frameReads = { s with
      lamps := s.frameReads.lamps, zones := s.frameReads.zones, horn := s.frameReads.horn, fault := s.frameReads.fault,
      notices := s.frameReads.notices } :=
  s.checkLamps_frame _

theorem State.takeSnapshot_frame (s : State) :
    s.takeSnapshot = { s with snapshot := s.takeSnapshot.snapshot } := by
  unfold takeSnapshot
  split <;> rfl

/-- The frame of a frame start can be taken in hand before its reads, picture and pending module counts. -/
theorem State.beginFrame_eq (s : State) :
    s.beginFrame = (s.withFrame (.driving 0) (some s.timing.period)).frameReads.takeSnapshot.draw.forcePending := by
  have period : s.frameReads.takeSnapshot.draw.forcePending.timing.period = s.timing.period := by
    rw [forcePending_frame]
    show s.frameReads.takeSnapshot.timing.period = _
    rw [takeSnapshot_frame, frameReads_frame]
  have reads : (s.withFrame (.driving 0) (some s.timing.period)).frameReads =
      s.frameReads.withFrame (.driving 0) (some s.timing.period) := s.checkLamps_withFrame _ _ _
  rw [reads, takeSnapshot_withFrame, draw_withFrame, forcePending_withFrame]
  unfold beginFrame
  dsimp only
  rw [period]
  rfl

theorem State.draw_progress (s : State) : s.draw.progress = s.progress := rfl

/-- The picture of a frame in hand. -/
theorem settles_picture (s : State) (driving : ∃ j, s.progress = .driving j) :
    Settles s s.frameReads.takeSnapshot.draw.forcePending := by
  refine (((settles_checkLamps s _).trans (settles_takeSnapshot _)).trans (settles_draw _)).trans
    (settles_forcePending _ fun l h => ?_)
  obtain ⟨j, hj⟩ := driving
  rw [State.draw_progress, State.takeSnapshot_frame, State.checkLamps_frame] at h
  cases hj.symm.trans h

theorem advance_lt {period phase pending : Nat} (some : 0 < pending) : advance period phase pending < pending := by
  unfold advance
  split
  · rename_i same
    subst same
    exact Nat.mod_lt _ some
  · exact some

theorem settles_phaseAdvance (s : State) : Settles s s.phaseAdvance := by
  refine settles_scan s s.scan s.session s.progress s.nextFrame s.latched _ _ _ _ none s.holdLimit s.testLimit s.strings
    fun ok => ?_
  have next : (s.pendingTiming.getD s.timing).ok := by
    cases pending : s.pendingTiming with
    | none => exact ok.timing.1
    | some t => exact ok.timing.2 t pending
  have ⟨_, ⟨slow, _⟩, ⟨fast, _⟩⟩ := next
  refine ⟨ok.dark, fun run => ?_, ok.begun, ok.left, ⟨next, fun t h => by cases h⟩, ok.limits, ok.strings⟩
  obtain ⟨frame, time, -, -⟩ := ok.running run
  exact ⟨frame, time, advance_lt (by omega), advance_lt (by omega)⟩

theorem settles_beginFrame (s : State) (run : s.scan = .running) : Settles s s.beginFrame := by
  rw [State.beginFrame_eq]
  refine Settles.trans ?_ (settles_picture _ ⟨0, rfl⟩)
  refine settles_scan s s.scan s.session _ _ s.latched s.slowPhase s.fastPhase s.frameCount s.timing s.pendingTiming
    s.holdLimit s.testLimit s.strings fun ok => ?_
  exact ⟨fun d => (by cases run.symm.trans d), fun _ => ⟨fun h => (by cases h), rfl, (ok.running run).2.2⟩,
    fun j h => (by cases h; omega), fun l h => (by cases h), ok.timing, ok.limits, ok.strings⟩

theorem settles_frameStart (s : State) (run : s.scan = .running) : Settles s s.phaseAdvance.beginFrame :=
  (settles_phaseAdvance s).trans (settles_beginFrame _ run)

/-! ### Scan states (R82, R83) -/

theorem settles_startScan (s : State) : Settles s s.startScan := by
  unfold State.startScan
  rw [State.beginFrame_eq]
  refine Settles.trans ?_ (settles_picture _ ⟨0, rfl⟩)
  refine settles_scan s .running s.session _ _ s.latched 0 0 0 _ none s.holdLimit s.testLimit s.strings
    fun ok => ?_
  have next : (s.pendingTiming.getD s.timing).ok := by
    cases pending : s.pendingTiming with
    | none => exact ok.timing.1
    | some t => exact ok.timing.2 t pending
  have ⟨_, ⟨slow, _⟩, ⟨fast, _⟩⟩ := next
  refine ⟨fun d => (by cases d), fun _ => ⟨fun h => (by cases h), rfl, ?_, ?_⟩, fun j h => (by cases h; omega),
    fun l h => (by cases h), ⟨next, fun t h => by cases h⟩, ok.limits, ok.strings⟩
  · exact Nat.lt_of_lt_of_le (show 0 < 20 by decide) slow
  · exact Nat.lt_of_lt_of_le (show 0 < 4 by decide) fast

/-- With every string's bits gone no lamp is on (R83, R107, R163). -/
theorem State.lampOn_off {s : State} (off : s.latched = Vector.replicate 16 []) (i : Lamp) : s.lampOn i = false := by
  have none : (s.latched[stringOf i.val]?).getD [] = [] := by
    rw [off, Vector.getElem?_replicate]
    split <;> rfl
  unfold lampOn
  rw [none]
  rfl

theorem settles_endSession (s : State) : Settles s s.endSession := by
  refine Settles.trans ?_ (settles_raise _ .test)
  exact settles_scan s s.scan .off s.progress s.nextFrame s.latched s.slowPhase s.fastPhase s.frameCount s.timing
    s.pendingTiming s.holdLimit s.testLimit s.strings fun ok =>
      ⟨fun d => ⟨(ok.dark d).1, rfl, (ok.dark d).2.2⟩, ok.running, ok.begun, ok.left, ok.timing, ok.limits,
        ok.strings⟩

/-- A session begins only while RUNNING (R100). -/
theorem settles_beginSession (s : State) (source : TestSource) (run : s.scan ≠ .dark) :
    Settles s (s.beginSession source) := by
  refine Settles.trans ?_ (settles_raise _ .test)
  exact settles_scan s s.scan _ s.progress s.nextFrame s.latched s.slowPhase s.fastPhase s.frameCount s.timing
    s.pendingTiming s.holdLimit s.testLimit s.strings fun ok =>
      ⟨fun d => absurd d run, ok.running, ok.begun, ok.left, ok.timing, ok.limits, ok.strings⟩

theorem settles_endHold (s : State) : Settles s s.endHold := (works_endHold s).settles_of_eq rfl rfl

theorem settles_freeHold (s : State) : Settles s { s with hold := .free } :=
  (works_hold s .free (fun _ h => by cases h) fun _ => rfl).settles_of_eq rfl rfl

/-- STOP SCAN: hold and session freed, the raises, and then the scan darkened. -/
theorem settles_stopScan (s : State) : Settles s s.stopScan := by
  rw [State.stopScan_frame]
  have session : Settles { s with hold := .free } { s with hold := .free, session := .off } :=
    settles_scan _ s.scan .off s.progress s.nextFrame s.latched s.slowPhase s.fastPhase s.frameCount s.timing
      s.pendingTiming s.holdLimit s.testLimit s.strings fun ok =>
        ⟨fun d => ⟨(ok.dark d).1, rfl, (ok.dark d).2.2⟩, ok.running, ok.begun, ok.left, ok.timing, ok.limits,
          ok.strings⟩
  have signals : Settles { s with hold := .free, session := .off }
      { s with hold := .free, session := .off, notices := s.stopScan.notices } :=
    (works_signals { s with hold := .free, session := .off } s.horn s.stopScan.notices s.counters
      fun _ _ => rfl).settles_of_eq rfl rfl
  refine (((settles_freeHold s).trans session).trans signals).trans
    ((settles_scan _ .dark .off .none none (Vector.replicate 16 []) s.slowPhase s.fastPhase s.frameCount s.timing
      s.pendingTiming s.holdLimit s.testLimit s.strings fun ok => ?_))
  exact ⟨fun _ => ⟨rfl, rfl, rfl, rfl, State.lampOn_off rfl⟩, fun h => (by cases h), fun j h => (by cases h),
    fun l h => (by cases h), ok.timing, ok.limits, ok.strings⟩

end Sys2Proof.Machine
end

section
/-! SUPPORT. How each command is judged: refused with nothing but its checking reads done, refused by the watch unit, or
applied (9.6, 8.3). -/

namespace Sys2Proof.Machine

/-! ### The three ways of a judgement -/

/-- The STATUS names of refusals other than those of LENGTH and of the watch unit. -/
def Status.refusing : Status → Bool
  | .done | .queueFull | .length | .blocked => false
  | .unknown | .role | .range | .notRunning | .silent | .notOwner | .held | .owned | .overlap | .notAlarm
  | .notHolder => true

/-- How a command of this code can be judged, `r` being the state after its checking reads (R160, R161, R143). SET
COUNTER stands apart, as it alone rewrites a counter that may count commands. -/
inductive Judged (code : Byte) (r : State) : State × Answer → Prop
  | refused (a : Answer) (refusing : a.status.refusing = true) : Judged code r (r, a)
  | blocked (h : Hit) (payload : List Byte) : Judged code r (r.recordHit h, ⟨.blocked, payload⟩)
  | applied (t : State) (payload : List Byte) (settles : Settles r t) : Judged code r (t, .done payload)
  | counterSet (C : Vector Counter 4) (payload : List Byte) (set : code = 0x92) :
    Judged code r ({ r with counters := C }, .done payload)

/-- A command that only reports. -/
theorem Judged.reports (code : Byte) (r : State) (payload : List Byte) : Judged code r (r, .done payload) :=
  .applied r payload (.refl r)

/-- A check whose refusals, if any, are such. -/
def Refuses (refusal : Option Answer) : Prop := ∀ a, refusal = some a → a.status.refusing = true

theorem Refuses.some {a : Answer} (h : a.status.refusing = true) : Refuses (some a) := by
  rintro _ ⟨⟩
  exact h

theorem Refuses.ite {c : Prop} [Decidable c] {a : Answer} (h : a.status.refusing = true) :
    Refuses (if c then none else Option.some a) := by
  split
  · exact fun _ h => by cases h
  · exact .some h

theorem refuses_telemetryOnly (p : Port) : Refuses (telemetryOnly p) := by
  unfold telemetryOnly
  split
  · exact .some rfl
  · exact fun _ h => by cases h

theorem refuses_deskOnly (p : Port) : Refuses (deskOnly p) := .ite rfl

theorem refuses_batchRange (b : Batch) (max : Nat) : Refuses (batchRange b max) := .ite rfl

theorem Refuses.map {α : Type} (o : Option α) (f : α → Answer) (h : ∀ x, (f x).status.refusing = true) :
    Refuses (o.map f) := by
  intro a ha
  obtain ⟨x, -, rfl⟩ := Option.map_eq_some_iff.1 ha
  exact h x

theorem Refuses.or {x y : Option Answer} (hx : Refuses x) (hy : Refuses y) : Refuses (x.or y) := by
  intro a h
  rcases Option.or_eq_some_iff.1 h with h | ⟨-, h⟩
  · exact hx a h
  · exact hy a h

theorem Judged.unless {code : Byte} {r : State} {refusal : Option Answer} {x : State × Answer} (h : Refuses refusal)
    (passed : refusal = none → Judged code r x) : Judged code r (r.unless refusal x) := by
  cases found : refusal with
  | none => exact passed found
  | some a => exact .refused a (h a found)

/-- The three ends of the watch check (R143, R144): no window matched, a BLOCK window refuses, or the application is a
hit. -/
theorem State.watched_cases (s : State) (p : Port) (code scope : Byte) (k : WatchKind) (low high : Nat)
    (apply : State × Answer) :
    s.watched p code scope k low high apply = apply ∨
    (∃ h payload, s.watched p code scope k low high apply = (s.recordHit h, ⟨.blocked, payload⟩)) ∨
    ∃ h, s.watched p code scope k low high apply = (apply.1.recordHit h, apply.2) := by
  unfold watched
  dsimp only
  split
  · exact .inl rfl
  · split
    · exact .inr (.inl ⟨_, _, rfl⟩)
    · exact .inr (.inr ⟨_, rfl⟩)

theorem Judged.watched {code : Byte} {r t : State} {p : Port} {code' scope : Byte} {k : WatchKind} {low high : Nat}
    {payload : List Byte} (h : Settles r t) :
    Judged code r (r.watched p code' scope k low high (t, .done payload)) := by
  rcases r.watched_cases p code' scope k low high (t, .done payload) with same | ⟨_, _, same⟩ | ⟨_, same⟩ <;> rw [same]
  · exact .applied t payload h
  · exact .blocked _ _
  · exact .applied _ _ (h.trans (settles_recordHit t _))

/-! ### The image (chapter 1) -/

theorem judged_writeAspects (p : Port) (s : State) (a : Batch × List Byte) :
    Judged 0x01 (s.checkLamps a.1.lamps) (judgeWriteAspects p s a) :=
  .unless ((refuses_telemetryOnly p).or ((refuses_batchRange _ _).or ((Refuses.map _ _ fun _ => rfl).or
    (Refuses.map _ _ fun _ => rfl)))) fun _ => .watched (Settles.foldl settles_writeAspect _ _)

theorem judged_setAttributes (p : Port) (s : State) (a : Batch × List (Byte × Byte × Byte × Byte)) :
    Judged 0x02 (s.checkLamps a.1.lamps) (judgeSetAttributes p s a) :=
  .unless ((refuses_telemetryOnly p).or ((refuses_batchRange _ _).or ((Refuses.map _ _ fun _ => rfl).or
    (Refuses.map _ _ fun _ => rfl)))) fun _ =>
      .watched ((Works.foldl works_giveAttributes _ _).settleHorn false fun h => by cases h)

theorem judged_forceLamp (p : Port) (s : State) (a : Nat × Byte) :
    Judged 0x03 (s.checkLamps (lampOf? a.1).toList) (judgeForceLamp p s a) := by
  refine .unless (refuses_deskOnly p) fun _ => ?_
  split
  · exact .watched (settles_setOverride _ _ _)
  · exact .refused _ rfl

theorem judged_unforce (p : Port) (s : State) (n : Nat) :
    Judged 0x04 (s.checkLamps (unforceLamps n)) (judgeUnforce p s n) := by
  refine .unless (refuses_deskOnly p) fun _ => ?_
  split
  · exact .watched (settles_unforceAll _)
  · split
    · exact .watched (settles_setOverride _ _ _)
    · exact .refused _ rfl

theorem judged_readLamps (s : State) (b : Batch) : Judged 0x05 (s.checkLamps b.lamps) (judgeReadLamps s b) :=
  .unless (refuses_batchRange _ _) fun _ => .reports _ _ _

/-! ### Zones (chapter 2) -/

theorem Judged.onZone {code : Byte} {s : State} {role : Option Answer} {b : Byte} {rest : ZoneNo → State × Answer}
    (h : Refuses role) (passed : role = none → ∀ z, Judged code s (rest z)) : Judged code s (s.onZone role b rest) := by
  refine .unless h fun ok => ?_
  split
  · exact .refused _ rfl
  · exact passed ok _

/-- A zone record replaced by a command. -/
theorem Judged.zoneDone {code : Byte} {s : State} {z : ZoneNo} {r : ZoneRecord} (h : Works s (s.setZone z r)) :
    Judged code s (s.zoneDone z r) := .applied _ _ (h.settles_of_eq rfl rfl)

theorem telemetryOnly_none {p : Port} (h : telemetryOnly p = none) : p ≠ .d := by
  rintro rfl
  cases h

theorem deskOnly_none {p : Port} (h : deskOnly p = none) : p = .d := by
  by_contra other
  simp [deskOnly, other] at h

theorem judged_defineZone (p : Port) (s : State) (a : ZoneDefinition) : Judged 0x10 s (judgeDefineZone p s a) := by
  refine .unless (refuses_telemetryOnly p) fun _ => ?_
  split
  · split
    · exact .refused _ rfl
    · rename_i range
      split
      · exact .refused _ rfl
      · split
        · exact .refused _ rfl
        · rename_i free
          exact .zoneDone (works_define s _ _ _ _ _ (by simpa using range) free)
  · exact .refused _ rfl

theorem judged_disableZone (p : Port) (s : State) (b : Byte) : Judged 0x11 s (judgeDisableZone p s b) := by
  refine .onZone (refuses_telemetryOnly p) fun _ z => ?_
  split
  · exact .refused _ rfl
  · exact .zoneDone (works_setZone s z _ (fun _ _ h => by cases h) (fun ok => ok.range z)
      (fun _ _ => ⟨rfl, rfl, rfl, rfl, rfl⟩) (fun _ on => by cases on) fun _ _ on => by cases on)

theorem judged_claimZone (p : Port) (s : State) (b : Byte) : Judged 0x12 s (judgeClaimZone p s b) := by
  refine .onZone (refuses_telemetryOnly p) fun role z => ?_
  split
  · exact .refused _ rfl
  · rename_i on
    simp only [Bool.not_eq_true', Bool.not_eq_false] at on
    split
    · exact .refused _ rfl
    · rename_i heard
      have live : (s.links.get p).state = .live := by
        cases state : (s.links.get p).state with
        | live => rfl
        | silent => exact absurd state heard
      split
      · exact .refused _ rfl
      · refine .zoneDone (works_setOwner s z (some p) s.zones[z].stale (fun _ q owned => ?_) fun _ off => ?_)
        · cases owned
          exact ⟨on, telemetryOnly_none role, live⟩
        · cases on.symm.trans off

theorem judged_releaseZone (p : Port) (s : State) (b : Byte) : Judged 0x13 s (judgeReleaseZone p s b) := by
  refine .onZone (refuses_telemetryOnly p) fun _ z => ?_
  split
  · exact .refused _ rfl
  · exact .zoneDone (works_setOwner s z none s.zones[z].stale (fun _ _ h => by cases h)
      fun ok off => ⟨rfl, (ok.disabled z off).2.1⟩)

theorem judged_markCurrent (p : Port) (s : State) (b : Byte) : Judged 0x14 s (judgeMarkCurrent p s b) := by
  refine .onZone (refuses_telemetryOnly p) fun _ z => ?_
  split
  · rename_i owned
    refine .zoneDone (works_setOwner s z s.zones[z].owner false (fun ok q => ok.owner z q) fun ok off => ?_)
    cases owned.symm.trans (ok.disabled z off).1
  · exact .refused _ rfl

theorem judged_readZone (s : State) (b : Byte) : Judged 0x15 s (judgeReadZone s b) :=
  .onZone (fun _ h => by cases h) fun _ _ => .reports _ _ _

/-! ### Links and the handover slot (chapter 3) -/

theorem clamp_le {low high : Nat} (h : low ≤ high) (n : Nat) : clamp low high n ≤ high := by
  unfold clamp
  omega

theorem le_clamp (low high n : Nat) : low ≤ clamp low high n := Nat.le_max_left _ _

theorem settles_setTimeout (s : State) (p : Port) (n : Nat) :
    Settles s (s.setLink p { s.links.get p with timeout := clamp 1 300 n }) := by
  refine Works.settles_of_eq ?_ rfl rfl
  exact works_heard s p _ (.inl rfl) fun ok => ⟨⟨le_clamp _ _ _, clamp_le (by decide) _⟩, (ok p).2⟩

theorem settles_setAllowance (s : State) (p : Port) (n : Nat) :
    Settles s (s.setLink p { s.links.get p with allowance := (clamp 0 127 n : Nat), saturated := false }) := by
  have bound : clamp 0 127 n ≤ 127 := clamp_le (by decide) n
  refine Works.settles_of_eq ?_ rfl rfl
  refine works_heard s p _ (.inl rfl) fun ok => ⟨(ok p).1, ?_, (ok p).2.2⟩
  dsimp only
  omega

theorem judged_postHandover (p : Port) (s : State) (a : Byte × Byte) : Judged 0x24 s (judgePostHandover p s a) := by
  refine .unless (refuses_telemetryOnly p) fun role => ?_
  refine .applied _ _ (Settles.trans ?_ (settles_raise _ _))
  refine Works.settles_of_eq ?_ rfl rfl
  refine works_slot s _ fun ok => ⟨ok.owner, ok.holder, fun q poster => ?_, ?_, fun empty => ?_⟩
  · cases poster
    refine ⟨telemetryOnly_none role, fun stands => ?_⟩
    cases state : (s.links.get p).state with
    | live => rfl
    | silent => simp [State.posted, state] at stands
  · cases state : (s.links.get p).state <;> simp [State.posted, state]
  · cases state : (s.links.get p).state <;> simp [State.posted, state] at empty

theorem judged_takeHandover (p : Port) (s : State) (u : Unit) : Judged 0x25 s (judgeTakeHandover p s u) := by
  refine .unless (refuses_telemetryOnly p) fun _ => .applied _ _ (Works.settles_of_eq ?_ rfl rfl)
  exact works_slot s _ fun ok => ⟨ok.owner, ok.holder, fun q h => (by cases h), ⟨fun _ => rfl, fun _ => rfl⟩, fun _ => rfl⟩

/-! ### Alarms (chapter 4) -/

theorem lampsFrom_bound {s : State} {p : Port} {b : Batch} (h : s.alarmRefusal p b = none) :
    ∀ i ∈ b.lamps, s.lamps[i].attrs.alarmCapable = true := by
  have none := (Option.or_eq_none_iff.1 (Option.or_eq_none_iff.1 (Option.or_eq_none_iff.1 h).2).2).2
  intro i mem
  simpa using List.find?_eq_none.1 (Option.map_eq_none_iff.1 none) i mem

theorem refuses_alarmRefusal (s : State) (p : Port) (b : Batch) : Refuses (s.alarmRefusal p b) :=
  (refuses_telemetryOnly p).or ((refuses_batchRange _ _).or ((Refuses.map _ _ fun _ => rfl).or
    (Refuses.map _ _ fun _ => rfl)))

theorem judged_raiseAlarm (p : Port) (s : State) (b : Batch) :
    Judged 0x30 (s.checkLamps b.lamps) (judgeRaiseAlarm p s b) :=
  .unless (refuses_alarmRefusal _ p b) fun passed =>
    .watched (settles_raiseLamps p (lampsFrom_nodup _ _) _ (lampsFrom_bound passed))

theorem judged_clearAlarm (p : Port) (s : State) (b : Batch) :
    Judged 0x31 (s.checkLamps b.lamps) (judgeClearAlarm p s b) :=
  .unless (refuses_alarmRefusal _ p b) fun _ =>
    .watched ((Works.foldl works_clearLamp _ _).settleHorn false fun h => by cases h)

theorem judged_acknowledged (s : State) (p : Port) (scope : Scope) (carried : List Byte) (lamps : List Lamp)
    (low high : Nat) : Judged 0x32 s (s.acknowledged p scope carried lamps low high) :=
  .watched ((Works.foldl (works_ackLamp p) _ _).settleHorn false fun h => by cases h)

theorem judged_acknowledge (p : Port) (s : State) (a : AckScope) :
    Judged 0x32 (s.checkLamps (s.ackLamps a)) (judgeAcknowledge p s a) := by
  cases a with
  | lamps b =>
    refine .unless ((refuses_batchRange _ _).or ?_) fun _ => judged_acknowledged _ _ _ _ _ _ _
    split
    · exact fun _ h => by cases h
    · exact Refuses.map _ _ fun _ => rfl
  | zone z =>
    simp only [judgeAcknowledge]
    split
    · exact .refused _ rfl
    · split
      · exact .refused _ rfl
      · split
        · exact .refused _ rfl
        · exact judged_acknowledged _ _ _ _ _ _ _
  | all => exact .unless (refuses_deskOnly p) fun _ => judged_acknowledged _ _ _ _ _ _ _
  | bad carried => exact .refused _ rfl

theorem judged_silenceHorn (p : Port) (s : State) (u : Unit) : Judged 0x33 s (judgeSilenceHorn p s u) :=
  .unless (refuses_deskOnly p) fun _ => .applied _ _ (settles_quiet s)

/-! ### The scan (chapters 5 and 6) -/

theorem judged_startScan (p : Port) (s : State) (u : Unit) : Judged 0x40 s (judgeStartScan p s u) := by
  refine .unless (refuses_telemetryOnly p) fun _ => .applied _ _ ?_
  cases s.scan with
  | dark => exact settles_startScan s
  | running => exact .refl s

theorem judged_stopScan (p : Port) (s : State) (u : Unit) : Judged 0x41 s (judgeStopScan p s u) := by
  refine .unless (refuses_telemetryOnly p) fun _ => .applied _ _ ?_
  cases s.scan with
  | dark => exact .refl s
  | running => exact settles_stopScan s

/-- Levels as SET LEVELS carries them are within their ranges (R91). -/
def Levels.Ok (l : Levels) : Prop :=
  l.board ≤ 255 ∧ (16 ≤ l.floor ∧ l.floor ≤ 255) ∧ ∀ g : Fin 8, l.groups[g] ≤ 255

theorem parseLevels_ok {payload : List Byte} {l : Levels} (h : parseLevels payload = some l) : l.Ok := by
  unfold parseLevels at h
  split at h
  · cases h
    refine ⟨Nat.le_of_lt_succ (BitVec.isLt _), ⟨le_clamp _ _ _, clamp_le (by decide) _⟩, fun g => ?_⟩
    fin_cases g <;> exact Nat.le_of_lt_succ (BitVec.isLt _)
  · cases h

theorem judged_setLevels (p : Port) (s : State) {l : Levels} (ok : l.Ok) : Judged 0x42 s (judgeSetLevels p s l) :=
  .unless (refuses_deskOnly p) fun _ => .applied _ _
    (settles_display s s.snapshot s.drive l s.failThreshold s.recoveryThreshold fun kept =>
      ⟨kept.runCount, kept.supervised, kept.suspect, kept.rendering, ok, kept.thresholds⟩)

/-- Timing and limits as SET TIMING carries them are within their ranges (R92). -/
def TimingSettingOk (a : Timing × Nat × Nat) : Prop :=
  a.1.ok ∧ (1 ≤ a.2.1 ∧ a.2.1 ≤ 20) ∧ (5 ≤ a.2.2 ∧ a.2.2 ≤ 120)

theorem parseTiming_ok {payload : List Byte} {a : Timing × Nat × Nat} (h : parseTiming payload = some a) :
    TimingSettingOk a := by
  have within {low high : Nat} (h : low ≤ high) (n : Nat) : low ≤ clamp low high n ∧ clamp low high n ≤ high :=
    ⟨le_clamp _ _ _, clamp_le h n⟩
  unfold parseTiming at h
  split at h
  · cases h
    exact ⟨⟨within (by decide) _, within (by decide) _, within (by decide) _⟩, within (by decide) _, within (by decide) _⟩
  · cases h

theorem judged_setTiming (p : Port) (s : State) {a : Timing × Nat × Nat} (h : TimingSettingOk a) :
    Judged 0x43 s (judgeSetTiming p s a) := by
  obtain ⟨timing, limits⟩ := h
  refine .unless (refuses_telemetryOnly p) fun _ => .applied _ _ ?_
  split
  · rename_i dark
    exact settles_scan s s.scan s.session s.progress s.nextFrame s.latched s.slowPhase s.fastPhase s.frameCount a.1 none
      a.2.1 a.2.2 s.strings fun ok => ⟨ok.dark, fun run => (by cases dark.symm.trans run), ok.begun, ok.left,
        ⟨timing, fun t h => by cases h⟩, limits, ok.strings⟩
  · exact settles_scan s s.scan s.session s.progress s.nextFrame s.latched s.slowPhase s.fastPhase s.frameCount s.timing
      (some a.1) a.2.1 a.2.2 s.strings fun ok => ⟨ok.dark, ok.running, ok.begun, ok.left,
        ⟨ok.timing.1, fun t h => by cases h; exact timing⟩, limits, ok.strings⟩

theorem judged_holdBoard (p : Port) (s : State) (u : Unit) : Judged 0x44 s (judgeHoldBoard p s u) := by
  unfold judgeHoldBoard
  split
  · exact .refused _ rfl
  · rename_i lit
    split
    · exact .refused _ rfl
    · rename_i heard
      have live : (s.links.get p).state = .live := by
        cases state : (s.links.get p).state with
        | live => rfl
        | silent => exact absurd state heard
      split
      · refine .applied _ _ (Works.settles_of_eq ?_ rfl rfl)
        exact works_hold s _ (fun q h => by cases h; exact live) fun d => absurd d lit
      · unfold holdReply
        split
        · exact .reports _ _ _
        · exact .refused _ rfl

theorem judged_releaseHold (p : Port) (s : State) (u : Unit) : Judged 0x45 s (judgeReleaseHold p s u) := by
  unfold judgeReleaseHold
  split
  · exact .reports _ _ _
  · split
    · exact .applied _ _ (settles_freeHold s)
    · split
      · exact .applied _ _ (settles_endHold s)
      · exact .refused _ rfl

theorem judged_lampTestStart (p : Port) (s : State) (u : Unit) : Judged 0x46 s (judgeLampTestStart p s u) := by
  refine .unless ((refuses_deskOnly p).or ?_) fun passed => .applied _ _ ?_
  · split
    · exact .some rfl
    · exact fun _ h => by cases h
  · have lit : s.scan ≠ .dark := fun d => by simp [d] at passed
    split
    · exact settles_beginSession s _ lit
    · exact .refl s

theorem judged_lampTestStop (p : Port) (s : State) (u : Unit) : Judged 0x47 s (judgeLampTestStop p s u) := by
  refine .unless (refuses_deskOnly p) fun _ => .applied _ _ ?_
  split
  · exact .refl s
  · exact settles_endSession s

theorem judged_setString (p : Port) (s : State) (a : Byte × Byte) : Judged 0x50 s (judgeSetString p s a) := by
  have bound : clamp 0 32 a.2.toNat ≤ 32 := clamp_le (by decide) _
  refine .unless (refuses_telemetryOnly p) fun _ => ?_
  split
  · exact .refused _ rfl
  · rename_i n _
    dsimp only
    split
    · rename_i dark
      refine .applied _ _ (settles_putInForce s n _ (fun _ => bound) fun ok l h => ?_)
      cases (ok.dark dark).2.2.1.symm.trans h
    · refine .applied _ _ (settles_setString s n _ (fun ok => ?_) fun ok l h mem => (ok.left l h).2 n mem)
      obtain ⟨count, answer, state, -⟩ := ok.strings n
      exact ⟨count, answer, state, fun c h => by cases h; exact bound⟩

theorem judged_setSupervision (p : Port) (s : State) (a : Byte × Byte) : Judged 0x51 s (judgeSetSupervision p s a) :=
  .unless (refuses_telemetryOnly p) fun _ => .applied _ _
    (settles_display s s.snapshot s.drive s.levels _ _ fun ok =>
      ⟨ok.runCount, ok.supervised, ok.suspect, ok.rendering, ok.levels,
        ⟨le_clamp _ _ _, clamp_le (by decide) _⟩, ⟨le_clamp _ _ _, clamp_le (by decide) _⟩⟩)

/-! ### Failure list, fault record, windows, notices, counters (chapters 7, 8 and 10) -/

/-- TAKE FAILURES removes entries and marks others, so that the list keeps some of its lamps in their order. -/
theorem takeEntries_lamps (n : Nat) (l : List FailureEntry) :
    ((takeEntries n l).map FailureEntry.lamp).Sublist (l.map FailureEntry.lamp) := by
  induction l generalizing n with
  | nil => simp [takeEntries]
  | cons e es ih =>
    cases n with
    | zero => exact List.Sublist.refl _
    | succ n =>
      unfold takeEntries
      split
      · exact (ih _).cons_cons _
      · split
        · exact (ih _).cons _
        · exact (ih _).cons_cons _

theorem judged_takeFailures (s : State) (b : Byte) : Judged 0x60 s (judgeTakeFailures s b) := by
  unfold judgeTakeFailures
  split
  · exact .refused _ rfl
  · exact .applied _ _ ((works_failures s _ _ (takeEntries_lamps _ _)).settles_of_eq rfl rfl)

theorem FaultSet.without_any {f g : FaultSet} (h : (f.without g).any = true) : f.any = true := by
  simp only [FaultSet.without, FaultSet.any, Bool.or_eq_true, Bool.and_eq_true] at h ⊢
  tauto

theorem settles_releaseFault (s : State) (kinds : FaultSet) : Settles s { s with fault := s.fault.release kinds } := by
  refine (works_records s _ s.capture s.failures s.overflow fun ok => ?_).settles_of_eq rfl rfl
  unfold FaultRecord.release
  dsimp only
  split
  · rename_i some
    refine ⟨fun free => ?_, fun _ => ok.frozen (FaultSet.without_any some), ok.capture, ok.failures⟩
    cases some.symm.trans free
  · rename_i none
    exact ⟨fun _ => ⟨rfl, rfl, rfl, rfl⟩, fun frozen => absurd frozen none, ok.capture, ok.failures⟩

theorem judged_setFaultMask (p : Port) (s : State) (b : Byte) : Judged 0x63 s (judgeSetFaultMask p s b) := by
  refine .unless (refuses_telemetryOnly p) fun _ => .applied _ _ (Works.settles_of_eq ?_ rfl rfl)
  exact works_records s _ s.capture s.failures s.overflow fun ok => ⟨ok.free, ok.frozen, ok.capture, ok.failures⟩

theorem settles_settings (s : State) (m : ArbMode) (w : Vector Window 4) (r : Vector (PerPort Bool) 10) (input : Bool) :
    Settles s { s with mode := m, windows := w, routing := r, testInput := input } :=
  (works_settings s m w r input).settles_of_eq rfl rfl

theorem judged_setWindow (s : State) (a : WindowSetting) : Judged 0x70 s (judgeSetWindow s a) := by
  unfold judgeSetWindow
  split
  · exact .applied _ _ (settles_settings s s.mode _ s.routing s.testInput)
  · exact .refused _ rfl

theorem settles_releaseWatch (s : State) : Settles s { s with capture := ⟨none, false⟩ } := by
  refine Works.settles_of_eq ?_ rfl rfl
  exact works_records s s.fault _ s.failures s.overflow fun ok => ⟨ok.free, ok.frozen, fun _ => rfl, ok.failures⟩

/-- SET ARBITRATION judged (R159). -/
def judgeSetArbitration (p : Port) (s : State) (b : Byte) : State × Answer :=
  s.unless (telemetryOnly p)
    (match ArbMode.ofCode? b with
    | none => (s, ⟨.range, []⟩)
    | some m => ({ s with mode := m }, .done [s.mode.code, m.code]))

theorem judged_setArbitration (p : Port) (s : State) (b : Byte) : Judged 0x80 s (judgeSetArbitration p s b) := by
  refine .unless (refuses_telemetryOnly p) fun _ => ?_
  split
  · exact .refused _ rfl
  · exact .applied _ _ (settles_settings s _ s.windows s.routing s.testInput)

theorem judged_setRouting (s : State) (a : Byte × Byte) : Judged 0x90 s (judgeSetRouting s a) := by
  unfold judgeSetRouting
  split
  · exact .applied _ _ (settles_settings s s.mode s.windows _ s.testInput)
  · exact .refused _ rfl

theorem settles_takeNotices (s : State) (n : PerPort (Vector Bool 10)) : Settles s { s with notices := n } :=
  (works_signals s s.horn n s.counters fun _ _ => rfl).settles_of_eq rfl rfl

theorem judged_setCounter (s : State) (a : CounterSetting) : Judged 0x92 s (judgeSetCounter s a) := by
  unfold judgeSetCounter
  split
  · exact .counterSet _ _ rfl
  · exact .refused _ rfl

end Sys2Proof.Machine
end

section
/-! SUPPORT. Every taking of a command, said once: how its payload is read, which zone it is attributed to, and how it is
judged (9.2, 9.6). -/

namespace Sys2Proof.Machine

/-! ### Payloads -/

theorem parseEmpty_eq_none (payload : List Byte) : parseEmpty payload = none ↔ decide (payload.length = 0) = false := by
  cases payload <;> simp [parseEmpty]

theorem parse1_eq_none (payload : List Byte) : parse1 payload = none ↔ decide (payload.length = 1) = false := by
  rcases payload with _ | ⟨_, _ | ⟨_, _⟩⟩ <;> simp [parse1]

theorem parse1_eq_some {payload : List Byte} {a : Byte} (h : parse1 payload = some a) : payload = [a] := by
  unfold parse1 at h
  split at h <;> cases h
  rfl

theorem parse2_eq_none (payload : List Byte) : parse2 payload = none ↔ decide (payload.length = 2) = false := by
  rcases payload with _ | ⟨_, _ | ⟨_, _ | ⟨_, _⟩⟩⟩ <;> simp [parse2]

theorem parseBatch_eq_none (payload : List Byte) :
    parseBatch payload = none ↔ decide (payload.length = 3) = false := by
  rcases payload with _ | ⟨_, _ | ⟨_, _ | ⟨_, _ | ⟨_, _⟩⟩⟩⟩ <;> simp [parseBatch]

theorem parseBatch_eq_some {payload : List Byte} {b : Batch} (h : parseBatch payload = some b) :
    ∃ hi lo n, payload = [hi, lo, n] ∧ b = ⟨number16 hi lo, n.toNat⟩ := by
  unfold parseBatch at h
  split at h <;> cases h
  exact ⟨_, _, _, rfl, rfl⟩

theorem parseForceLamp_eq_none (payload : List Byte) :
    parseForceLamp payload = none ↔ decide (payload.length = 3) = false := by
  rcases payload with _ | ⟨_, _ | ⟨_, _ | ⟨_, _ | ⟨_, _⟩⟩⟩⟩ <;> simp [parseForceLamp]

theorem parseForceLamp_eq_some {payload : List Byte} {a : Nat × Byte} (h : parseForceLamp payload = some a) :
    ∃ hi lo o, payload = [hi, lo, o] ∧ a = (number16 hi lo, o) := by
  unfold parseForceLamp at h
  split at h <;> cases h
  exact ⟨_, _, _, rfl, rfl⟩

theorem parseUnforce_eq_none (payload : List Byte) :
    parseUnforce payload = none ↔ decide (payload.length = 2) = false := by
  rcases payload with _ | ⟨_, _ | ⟨_, _ | ⟨_, _⟩⟩⟩ <;> simp [parseUnforce]

theorem parseUnforce_eq_some {payload : List Byte} {n : Nat} (h : parseUnforce payload = some n) :
    ∃ hi lo, payload = [hi, lo] ∧ n = number16 hi lo := by
  unfold parseUnforce at h
  split at h <;> cases h
  exact ⟨_, _, rfl, rfl⟩

theorem parseDefineZone_eq_none (payload : List Byte) :
    parseDefineZone payload = none ↔ decide (payload.length = 8) = false := by
  rcases payload with _ | ⟨_, _ | ⟨_, _ | ⟨_, _ | ⟨_, _ | ⟨_, _ | ⟨_, _ | ⟨_, _ | ⟨_, _ | ⟨_, _⟩⟩⟩⟩⟩⟩⟩⟩⟩ <;>
    simp [parseDefineZone]

theorem parseDefineZone_eq_some {payload : List Byte} {a : ZoneDefinition} (h : parseDefineZone payload = some a) :
    ∃ z b1 b0 s1 s0 t m1 m0, payload = [z, b1, b0, s1, s0, t, m1, m0] ∧ a.zone = z := by
  unfold parseDefineZone at h
  split at h <;> cases h
  exact ⟨_, _, _, _, _, _, _, _, rfl, rfl⟩

theorem parseSetWindow_eq_none (payload : List Byte) :
    parseSetWindow payload = none ↔ decide (payload.length = 8) = false := by
  rcases payload with _ | ⟨_, _ | ⟨_, _ | ⟨_, _ | ⟨_, _ | ⟨_, _ | ⟨_, _ | ⟨_, _ | ⟨_, _ | ⟨_, _⟩⟩⟩⟩⟩⟩⟩⟩⟩ <;>
    simp [parseSetWindow]

theorem parseSetCounter_eq_none (payload : List Byte) :
    parseSetCounter payload = none ↔ decide (payload.length = 5) = false := by
  rcases payload with _ | ⟨_, _ | ⟨_, _ | ⟨_, _ | ⟨_, _ | ⟨_, _ | ⟨_, _⟩⟩⟩⟩⟩⟩ <;> simp [parseSetCounter]

theorem parseTiming_eq_none (payload : List Byte) :
    parseTiming payload = none ↔ decide (payload.length = 5) = false := by
  rcases payload with _ | ⟨_, _ | ⟨_, _ | ⟨_, _ | ⟨_, _ | ⟨_, _ | ⟨_, _⟩⟩⟩⟩⟩⟩ <;> simp [parseTiming]

theorem parseLevels_eq_none (payload : List Byte) :
    parseLevels payload = none ↔ decide (payload.length = 10) = false := by
  rcases payload with _ | ⟨_, _ | ⟨_, _ | ⟨_, _ | ⟨_, _ | ⟨_, _ | ⟨_, _ | ⟨_, _ | ⟨_, _ | ⟨_, _ | ⟨_, _ | ⟨_, _⟩⟩⟩⟩⟩⟩⟩⟩⟩⟩⟩ <;>
    simp [parseLevels]

theorem parseWriteAspects_eq_none (payload : List Byte) :
    parseWriteAspects payload = none ↔ lengthOk 0x01 payload = false := by
  show _ ↔ (decide (payload.length ≥ 3) && decide (payload.length = 3 + (payload.getD 2 0).toNat)) = false
  rcases payload with _ | ⟨_, _ | ⟨_, _ | ⟨n, rest⟩⟩⟩
  · simp [parseWriteAspects]
  · simp [parseWriteAspects]
  · simp [parseWriteAspects]
  · simp only [parseWriteAspects, List.length_cons, List.getD_cons_succ, List.getD_cons_zero, ite_eq_right_iff,
      reduceCtorEq, imp_false, Bool.and_eq_false_iff, decide_eq_false_iff_not]
    omega

theorem parseWriteAspects_eq_some {payload : List Byte} {a : Batch × List Byte}
    (h : parseWriteAspects payload = some a) : ∃ hi lo n, payload = hi :: lo :: n :: a.2 ∧ a.2.length = n.toNat ∧
      a.1 = ⟨number16 hi lo, n.toNat⟩ := by
  unfold parseWriteAspects at h
  split at h
  · split at h <;> cases h
    exact ⟨_, _, _, rfl, ‹_›, rfl⟩
  · cases h

theorem parseSetAttributes_eq_none (payload : List Byte) :
    parseSetAttributes payload = none ↔ lengthOk 0x02 payload = false := by
  show _ ↔ (decide (payload.length ≥ 3) && decide (payload.length = 3 + 4 * (payload.getD 2 0).toNat)) = false
  rcases payload with _ | ⟨_, _ | ⟨_, _ | ⟨n, rest⟩⟩⟩
  · simp [parseSetAttributes]
  · simp [parseSetAttributes]
  · simp [parseSetAttributes]
  · simp only [parseSetAttributes, List.length_cons, List.getD_cons_succ, List.getD_cons_zero, ite_eq_right_iff,
      reduceCtorEq, imp_false, Bool.and_eq_false_iff, decide_eq_false_iff_not]
    omega

theorem parseSetAttributes_eq_some {payload : List Byte} {a : Batch × List (Byte × Byte × Byte × Byte)}
    (h : parseSetAttributes payload = some a) : ∃ hi lo n rest, payload = hi :: lo :: n :: rest ∧
      rest.length = 4 * n.toNat ∧ a = (⟨number16 hi lo, n.toNat⟩, quads rest) := by
  unfold parseSetAttributes at h
  split at h
  · split at h <;> cases h
    exact ⟨_, _, _, _, rfl, ‹_›, rfl⟩
  · cases h

/-- The length of an ACKNOWLEDGE is the one of its scope, or of some scope if its own is none (R68). -/
theorem lengthOk_acknowledge (c : Byte) (rest : List Byte) : lengthOk 0x32 (c :: rest) =
    match Scope.ofCode? c with
    | some .lamps => decide (rest.length = 3)
    | some .zone => decide (rest.length = 1)
    | some .all => decide (rest.length = 0)
    | none => decide (rest.length = 0) || decide (rest.length = 1) || decide (rest.length = 3) := by
  show (if c = 0x01 then decide ((c :: rest).length = 4) else if c = 0x02 then decide ((c :: rest).length = 2)
    else if c = 0x03 then decide ((c :: rest).length = 1)
    else decide ((c :: rest).length = 1) || decide ((c :: rest).length = 2) || decide ((c :: rest).length = 4)) = _
  simp only [List.length_cons, Nat.add_eq_right, Nat.reduceEqDiff]
  unfold Scope.ofCode?
  by_cases lamps : c = 0x01
  · rw [if_pos lamps, if_pos lamps]
  · rw [if_neg lamps, if_neg lamps]
    by_cases zone : c = 0x02
    · rw [if_pos zone, if_pos zone]
    · rw [if_neg zone, if_neg zone]
      by_cases all : c = 0x03
      · rw [if_pos all, if_pos all]
      · rw [if_neg all, if_neg all]

theorem parseAcknowledge_eq_none (payload : List Byte) :
    parseAcknowledge payload = none ↔ lengthOk 0x32 payload = false := by
  cases payload with
  | nil => exact ⟨fun _ => rfl, fun _ => rfl⟩
  | cons c rest =>
    rw [lengthOk_acknowledge]
    rcases rest with _ | ⟨_, _ | ⟨_, _ | ⟨_, _ | ⟨_, _⟩⟩⟩⟩ <;>
      rcases scope : Scope.ofCode? c with _ | _ | _ | _ <;> simp [parseAcknowledge, scope]

theorem Scope.ofCode?_eq_some {c : Byte} {scope : Scope} (h : Scope.ofCode? c = some scope) : c = scope.code := by
  unfold Scope.ofCode? at h
  split at h
  · cases h; assumption
  · split at h
    · cases h; assumption
    · split at h <;> cases h
      assumption

theorem Scope.ofCode?_eq_none {c : Byte} (h : Scope.ofCode? c = none) : c ≠ 0x01 ∧ c ≠ 0x02 ∧ c ≠ 0x03 := by
  refine ⟨?_, ?_, ?_⟩ <;> rintro rfl <;> cases h

/-- What an ACKNOWLEDGE carries, by its payload (R68). -/
inductive AckScope.CarriedBy : AckScope → List Byte → Prop
  | lamps (hi lo n : Byte) : CarriedBy (.lamps ⟨number16 hi lo, n.toNat⟩) [0x01, hi, lo, n]
  | zone (z : Byte) : CarriedBy (.zone z) [0x02, z]
  | all : CarriedBy .all [0x03]
  | bad (c : Byte) (rest carried : List Byte) (scope : Scope.ofCode? c = none) : CarriedBy (.bad carried) (c :: rest)

theorem parseAcknowledge_eq_some {payload : List Byte} {a : AckScope} (h : parseAcknowledge payload = some a) :
    a.CarriedBy payload := by
  unfold parseAcknowledge at h
  split at h
  · split at h
    · rename_i scope
      cases h
      rw [Scope.ofCode?_eq_some scope]
      exact .all
    · cases h
    · rename_i scope
      cases h
      exact .bad _ _ _ scope
  · split at h
    · rename_i scope
      cases h
      rw [Scope.ofCode?_eq_some scope]
      exact .zone _
    · cases h
    · rename_i scope
      cases h
      exact .bad _ _ _ scope
  · split at h
    · rename_i scope
      cases h
      rw [Scope.ofCode?_eq_some scope]
      exact .lamps _ _ _
    · cases h
    · rename_i scope
      cases h
      exact .bad _ _ _ scope
  · cases h

/-! ### The zone a taking is attributed to (R168) -/

theorem State.zoneOfFirst_eq (s : State) (b : Batch) :
    s.zoneOfFirst b = if b.first < 4096 then s.zoneOf b.first else none := by
  unfold zoneOfFirst lampOf?
  split <;> rfl

/-- The codes of the commands that are attributed to no zone. -/
def zoneless (code : Byte) : Bool :=
  code ∉ [0x10, 0x11, 0x12, 0x13, 0x14, 0x15, 0x01, 0x02, 0x03, 0x04, 0x05, 0x30, 0x31, (0x32 : Byte)]

theorem State.attributedZone_zoneless (s : State) {code : Byte} (h : zoneless code = true) (payload : List Byte) :
    s.attributedZone code payload = none := by
  simp only [zoneless, List.mem_cons, List.not_mem_nil, or_false, not_or, decide_eq_true_eq] at h
  obtain ⟨h10, h11, h12, h13, h14, h15, h01, h02, h03, h04, h05, h30, h31, h32⟩ := h
  simp only [attributedZone, List.mem_cons, List.not_mem_nil, or_false, h10, h11, h12, h13, h14, h15, h01, h02, h03, h04,
    h05, h30, h31, h32, false_and, if_false, ite_self]

/-- The zone of a lamp, and with it the attribution of a taking, depends on the zone table alone. -/
theorem State.zoneOf_congr {s t : State} (zones : t.zones = s.zones) (n : Nat) : t.zoneOf n = s.zoneOf n := by
  unfold zoneOf
  rw [zones]

theorem State.attributedZone_congr {s t : State} (zones : t.zones = s.zones) (code : Byte) (payload : List Byte) :
    t.attributedZone code payload = s.attributedZone code payload := by
  simp only [attributedZone, zoneOf_congr zones]

/-! ### Every taking (R160) -/

/-- A command, with how its payload is read, how it is attributed and how it is judged: the payload cannot be read exactly
if its length is wrong; a wrong role is refused before anything else; and the judgement is one of the three. -/
structure IsTaking (c : Instr) (p : Port) (cmd : Command) {α : Type} (parse : List Byte → Option α)
    (zone : State → α → Option ZoneNo) (judge : State → α → State × Answer) : Prop where
  runs   : ∀ s, exec c s = .next (s.executes p cmd c.upsets parse zone judge)
  length : parse cmd.payload = none ↔ lengthOk cmd.code cmd.payload = false
  unread : parse cmd.payload = none → ∀ s : State, s.named c = []
  zone   : ∀ a, parse cmd.payload = some a → ∀ s : State, zone s a = s.attributedZone cmd.code cmd.payload
  judged : ∀ a, parse cmd.payload = some a → ∀ s : State, Judged cmd.code (s.checkLamps (s.named c)) (judge s a)
  role   : ∀ a, parse cmd.payload = some a → roleOk p cmd.code cmd.payload = false →
    ∀ s : State, judge s a = (s.checkLamps (s.named c), ⟨.role, []⟩)

/-- A command that names no lamps and is attributed to no zone. -/
theorem IsTaking.plain {c : Instr} {p : Port} {cmd : Command} {α : Type} {parse : List Byte → Option α}
    {judge : State → α → State × Answer} (runs : ∀ s, exec c s = .next (s.executes p cmd c.upsets parse noZone judge))
    (length : parse cmd.payload = none ↔ lengthOk cmd.code cmd.payload = false) (named : ∀ s : State, s.named c = [])
    (zone : zoneless cmd.code = true) (judged : ∀ s a, parse cmd.payload = some a → Judged cmd.code s (judge s a))
    (role : roleOk p cmd.code cmd.payload = false → ∀ s a, judge s a = (s, ⟨.role, []⟩)) :
    IsTaking c p cmd parse noZone judge where
  runs := runs
  length := length
  unread _ := named
  zone _ _ s := (s.attributedZone_zoneless zone _).symm
  judged a h s := by rw [named]; exact judged s a h
  role a _ wrong s := by rw [named]; exact role wrong s a

/-- A command whose records are read as its payload names them. -/
theorem IsTaking.reading {c : Instr} {p : Port} {cmd : Command} {α : Type} {parse : List Byte → Option α}
    {zone : State → α → Option ZoneNo} {judge : State → α → State × Answer} (names : State → α → List Lamp)
    (runs : ∀ s, exec c s = .next (s.executes p cmd c.upsets parse zone judge))
    (length : parse cmd.payload = none ↔ lengthOk cmd.code cmd.payload = false)
    (named : ∀ s : State, s.named c = (parse cmd.payload).elim [] (names s))
    (attributed : ∀ a, parse cmd.payload = some a → ∀ s : State, zone s a = s.attributedZone cmd.code cmd.payload)
    (judged : ∀ s a, Judged cmd.code (s.checkLamps (names s a)) (judge s a))
    (role : ∀ a, parse cmd.payload = some a → roleOk p cmd.code cmd.payload = false →
      ∀ s : State, judge s a = (s.checkLamps (names s a), ⟨.role, []⟩)) :
    IsTaking c p cmd parse zone judge where
  runs := runs
  length := length
  unread h s := by rw [named, h]; rfl
  zone := attributed
  judged a h s := by rw [named, h]; exact judged s a
  role a h wrong s := by rw [named, h]; exact role a h wrong s

/-- A command that carries a zone number alone. -/
theorem IsTaking.onZone {c : Instr} {p : Port} {cmd : Command}
    {judge : State → Byte → State × Answer} (runs : ∀ s, exec c s = .next (s.executes p cmd c.upsets parse1 zoneNamed judge))
    (length : lengthOk cmd.code cmd.payload = decide (cmd.payload.length = 1)) (named : ∀ s : State, s.named c = [])
    (zone : ∀ (s : State) b, cmd.payload = [b] → s.attributedZone cmd.code [b] = zoneNoOf? b)
    (judged : ∀ s a, Judged cmd.code s (judge s a))
    (role : roleOk p cmd.code cmd.payload = false → ∀ s a, judge s a = (s, ⟨.role, []⟩)) :
    IsTaking c p cmd parse1 zoneNamed judge where
  runs := runs
  length := by rw [length]; exact parse1_eq_none _
  unread _ := named
  zone a h s := by rw [parse1_eq_some h]; exact (zone s a (parse1_eq_some h)).symm
  judged a _ s := by rw [named]; exact judged s a
  role a _ wrong s := by rw [named]; exact role wrong s a

/-- A port that may not send a telemetry command is port D. -/
theorem eq_desk_of_telemetry {p : Port} (h : decide (p ≠ .d) = false) : p = .d := by
  simpa using h

theorem deskOnly_some {p : Port} (h : decide (p = .d) = false) : deskOnly p = some ⟨.role, []⟩ :=
  if_neg (by simpa using h)

theorem State.unless_telemetry {p : Port} (h : decide (p ≠ .d) = false) (s : State) (x : State × Answer) :
    s.unless (telemetryOnly p) x = (s, ⟨.role, []⟩) := by
  rw [eq_desk_of_telemetry h]
  rfl

theorem State.unless_telemetry_or {p : Port} (h : decide (p ≠ .d) = false) (s : State) (o : Option Answer)
    (x : State × Answer) : s.unless ((telemetryOnly p).or o) x = (s, ⟨.role, []⟩) := by
  rw [eq_desk_of_telemetry h]
  rfl

theorem State.unless_desk {p : Port} (h : decide (p = .d) = false) (s : State) (x : State × Answer) :
    s.unless (deskOnly p) x = (s, ⟨.role, []⟩) := by
  rw [deskOnly_some h]
  rfl

theorem State.unless_desk_or {p : Port} (h : decide (p = .d) = false) (s : State) (o : Option Answer)
    (x : State × Answer) : s.unless ((deskOnly p).or o) x = (s, ⟨.role, []⟩) := by
  rw [deskOnly_some h]
  rfl

/-- Every port may send a command that is neither a telemetry nor a desk command. -/
theorem role_any {P : Prop} (h : true = false) : P := by cases h

theorem isTaking_writeAspects (p : Port) (tag : Byte) (payload : List Byte) (u : List Upset) :
    IsTaking (.writeAspects p tag payload u) p ⟨tag, 0x01, payload⟩ parseWriteAspects (fun s a => s.zoneOfFirst a.1)
      (judgeWriteAspects p) :=
  .reading (fun _ a => a.1.lamps) (fun _ => rfl) (parseWriteAspects_eq_none _) (fun _ => rfl)
    (fun a h s => by
      have known : lengthOk 0x01 payload = true := by
        rw [← Bool.not_eq_false, ← parseWriteAspects_eq_none, h]
        simp
      obtain ⟨hi, lo, n, rfl, -, first⟩ := parseWriteAspects_eq_some h
      rw [s.zoneOfFirst_eq, first]
      show _ = if lengthOk 0x01 _ = false then none else if number16 hi lo < 4096 then _ else _
      rw [known]
      rfl)
    (judged_writeAspects p) fun _ _ wrong _ => State.unless_telemetry_or wrong _ _ _

theorem isTaking_setAttributes (p : Port) (tag : Byte) (payload : List Byte) (u : List Upset) :
    IsTaking (.setAttributes p tag payload u) p ⟨tag, 0x02, payload⟩ parseSetAttributes (fun s a => s.zoneOfFirst a.1)
      (judgeSetAttributes p) :=
  .reading (fun _ a => a.1.lamps) (fun _ => rfl) (parseSetAttributes_eq_none _) (fun _ => rfl)
    (fun a h s => by
      have known : lengthOk 0x02 payload = true := by
        rw [← Bool.not_eq_false, ← parseSetAttributes_eq_none, h]
        simp
      obtain ⟨hi, lo, n, rest, rfl, -, rfl⟩ := parseSetAttributes_eq_some h
      rw [s.zoneOfFirst_eq]
      show _ = if lengthOk 0x02 _ = false then none else if number16 hi lo < 4096 then _ else _
      rw [known]
      rfl)
    (judged_setAttributes p) fun _ _ wrong _ => State.unless_telemetry_or wrong _ _ _

theorem isTaking_forceLamp (p : Port) (tag : Byte) (payload : List Byte) (u : List Upset) :
    IsTaking (.forceLamp p tag payload u) p ⟨tag, 0x03, payload⟩ parseForceLamp (fun s a => s.zoneOfFirst ⟨a.1, 1⟩)
      (judgeForceLamp p) :=
  .reading (fun _ a => (lampOf? a.1).toList) (fun _ => rfl) (parseForceLamp_eq_none _) (fun _ => rfl)
    (fun a h s => by
      obtain ⟨hi, lo, o, rfl, rfl⟩ := parseForceLamp_eq_some h
      exact s.zoneOfFirst_eq _)
    (judged_forceLamp p) fun _ _ wrong _ => State.unless_desk wrong _ _

theorem isTaking_unforce (p : Port) (tag : Byte) (payload : List Byte) (u : List Upset) :
    IsTaking (.unforce p tag payload u) p ⟨tag, 0x04, payload⟩ parseUnforce (fun s n => s.zoneOfFirst ⟨n, 1⟩)
      (judgeUnforce p) :=
  .reading (fun _ => unforceLamps) (fun _ => rfl) (parseUnforce_eq_none _) (fun _ => rfl)
    (fun a h s => by
      obtain ⟨hi, lo, rfl, rfl⟩ := parseUnforce_eq_some h
      exact s.zoneOfFirst_eq _)
    (judged_unforce p) fun _ _ wrong _ => State.unless_desk wrong _ _

theorem isTaking_readLamps (p : Port) (tag : Byte) (payload : List Byte) (u : List Upset) :
    IsTaking (.readLamps p tag payload u) p ⟨tag, 0x05, payload⟩ parseBatch State.zoneOfFirst judgeReadLamps :=
  .reading (fun _ => Batch.lamps) (fun _ => rfl) (parseBatch_eq_none _) (fun _ => rfl)
    (fun a h s => by
      obtain ⟨hi, lo, n, rfl, rfl⟩ := parseBatch_eq_some h
      exact s.zoneOfFirst_eq _)
    judged_readLamps fun _ _ => role_any

theorem isTaking_raiseAlarm (p : Port) (tag : Byte) (payload : List Byte) (u : List Upset) :
    IsTaking (.raiseAlarm p tag payload u) p ⟨tag, 0x30, payload⟩ parseBatch State.zoneOfFirst (judgeRaiseAlarm p) :=
  .reading (fun _ => Batch.lamps) (fun _ => rfl) (parseBatch_eq_none _) (fun _ => rfl)
    (fun a h s => by
      obtain ⟨hi, lo, n, rfl, rfl⟩ := parseBatch_eq_some h
      exact s.zoneOfFirst_eq _)
    (judged_raiseAlarm p) fun _ _ wrong _ => State.unless_telemetry_or wrong _ _ _

theorem isTaking_clearAlarm (p : Port) (tag : Byte) (payload : List Byte) (u : List Upset) :
    IsTaking (.clearAlarm p tag payload u) p ⟨tag, 0x31, payload⟩ parseBatch State.zoneOfFirst (judgeClearAlarm p) :=
  .reading (fun _ => Batch.lamps) (fun _ => rfl) (parseBatch_eq_none _) (fun _ => rfl)
    (fun a h s => by
      obtain ⟨hi, lo, n, rfl, rfl⟩ := parseBatch_eq_some h
      exact s.zoneOfFirst_eq _)
    (judged_clearAlarm p) fun _ _ wrong _ => State.unless_telemetry_or wrong _ _ _

theorem isTaking_acknowledge (p : Port) (tag : Byte) (payload : List Byte) (u : List Upset) :
    IsTaking (.acknowledge p tag payload u) p ⟨tag, 0x32, payload⟩ parseAcknowledge State.ackZone (judgeAcknowledge p) :=
  .reading State.ackLamps (fun _ => rfl) (parseAcknowledge_eq_none _) (fun _ => rfl)
    (fun a h s => by
      cases parseAcknowledge_eq_some h with
      | lamps hi lo n => exact s.zoneOfFirst_eq _
      | zone z => rfl
      | all => rfl
      | bad c rest carried scope =>
        obtain ⟨lamps, zone, -⟩ := Scope.ofCode?_eq_none scope
        show none = if lengthOk 0x32 (c :: rest) = false then none else if (0x32 : Byte) = 0x32 ∧ c = 0x01 then _
          else if (0x32 : Byte) = 0x32 ∧ c = 0x02 then _ else none
        simp only [lamps, zone, and_false, if_false, ite_self])
    (judged_acknowledge p)
    (fun a h wrong s => by
      cases parseAcknowledge_eq_some h with
      | lamps hi lo n => cases wrong
      | zone z => cases wrong
      | all => exact State.unless_desk wrong _ _
      | bad c rest carried scope =>
        obtain ⟨-, -, all⟩ := Scope.ofCode?_eq_none scope
        have any : (if (true && decide (c = 0x03)) = true then decide (p = .d) else true) = false := wrong
        rw [decide_eq_false all] at any
        cases any)

theorem isTaking_defineZone (p : Port) (tag : Byte) (payload : List Byte) :
    IsTaking (.defineZone p tag payload) p ⟨tag, 0x10, payload⟩ parseDefineZone (fun _ a => zoneNoOf? a.zone)
      (judgeDefineZone p) where
  runs _ := rfl
  length := parseDefineZone_eq_none _
  unread _ _ := rfl
  zone a h s := by
    obtain ⟨_, _, _, _, _, _, _, _, rfl, rfl⟩ := parseDefineZone_eq_some h
    rfl
  judged a _ s := judged_defineZone p s a
  role _ _ wrong _ := State.unless_telemetry wrong _ _

theorem not_mem_of_unknown {code : Byte} (known : code ∉ knownCodes) {l : List Byte} (table : ∀ k ∈ l, k ∈ knownCodes) :
    code ∉ l := fun mem => known (table code mem)

theorem lengthOk_unknown {code : Byte} (known : code ∉ knownCodes) (payload : List Byte) :
    lengthOk code payload = true := by
  have other : ∀ k ∈ knownCodes, code ≠ k := fun k mem same => known (same ▸ mem)
  simp only [lengthOk, other 0x01 (by decide), other 0x02 (by decide), other 0x10 (by decide), other 0x70 (by decide),
    other 0x32 (by decide), other 0x42 (by decide), other 0x43 (by decide), other 0x92 (by decide), decide_false,
    Bool.or_false, Bool.false_eq_true, not_mem_of_unknown known (l := emptyCodes) (by decide),
    not_mem_of_unknown known (l := oneByteCodes) (by decide), not_mem_of_unknown known (l := twoByteCodes) (by decide),
    not_mem_of_unknown known (l := threeByteCodes) (by decide), if_false]

theorem roleOk_unknown {code : Byte} (known : code ∉ knownCodes) (p : Port) (payload : List Byte) :
    roleOk p code payload = true := by
  have other : code ≠ 0x32 := fun same => known (same ▸ (by decide))
  simp only [roleOk, not_mem_of_unknown known (l := telemetryCodes) (by decide),
    not_mem_of_unknown known (l := deskCodes) (by decide), other, decide_false, Bool.false_and, Bool.false_eq_true,
    if_false]

theorem isTaking_unknownCommand (p : Port) (tag : Byte) {code : Byte} (payload : List Byte) (known : code ∉ knownCodes) :
    IsTaking (.unknownCommand p tag code payload) p ⟨tag, code, payload⟩ some noZone
      fun s _ => (s, ⟨.unknown, []⟩) := by
  refine .plain (fun s => ?_) ?_ (fun _ => rfl) ?_ (fun s _ _ => .refused _ rfl) fun wrong => ?_
  · show Host.Outcome.next (if code ∈ knownCodes then s else _) = _
    rw [if_neg known]
    rfl
  · rw [lengthOk_unknown known]
    simp
  · exact decide_eq_true (not_mem_of_unknown known (by decide))
  · cases (roleOk_unknown known p payload).symm.trans wrong

/-- Every taking is of one of the commands of the code table, or of a code that is not in it. -/
theorem exists_taking {c : Instr} {p : Port} {cmd : Command} (h : c.command? = some (p, cmd)) :
    ∃ (α : Type) (parse : List Byte → Option α) (zone : State → α → Option ZoneNo)
      (judge : State → α → State × Answer), IsTaking c p cmd parse zone judge := by
  cases c with
  | unknownCommand q tag code payload =>
    by_cases known : code ∈ knownCodes
    · rw [Instr.command?, if_pos known] at h; cases h
    · rw [Instr.command?, if_neg known] at h
      cases h
      exact ⟨_, _, _, _, isTaking_unknownCommand _ _ _ known⟩
  | writeAspects q tag payload u => cases h; exact ⟨_, _, _, _, isTaking_writeAspects _ _ _ _⟩
  | setAttributes q tag payload u => cases h; exact ⟨_, _, _, _, isTaking_setAttributes _ _ _ _⟩
  | forceLamp q tag payload u => cases h; exact ⟨_, _, _, _, isTaking_forceLamp _ _ _ _⟩
  | unforce q tag payload u => cases h; exact ⟨_, _, _, _, isTaking_unforce _ _ _ _⟩
  | readLamps q tag payload u => cases h; exact ⟨_, _, _, _, isTaking_readLamps _ _ _ _⟩
  | raiseAlarm q tag payload u => cases h; exact ⟨_, _, _, _, isTaking_raiseAlarm _ _ _ _⟩
  | clearAlarm q tag payload u => cases h; exact ⟨_, _, _, _, isTaking_clearAlarm _ _ _ _⟩
  | acknowledge q tag payload u => cases h; exact ⟨_, _, _, _, isTaking_acknowledge _ _ _ _⟩
  | defineZone q tag payload => cases h; exact ⟨_, _, _, _, isTaking_defineZone _ _ _⟩
  | disableZone q tag payload =>
    cases h
    exact ⟨_, _, _, _, .onZone (fun _ => rfl) rfl (fun _ => rfl) (fun _ _ _ => rfl) (judged_disableZone _)
      fun wrong s _ => s.unless_telemetry wrong _⟩
  | claimZone q tag payload =>
    cases h
    exact ⟨_, _, _, _, .onZone (fun _ => rfl) rfl (fun _ => rfl) (fun _ _ _ => rfl) (judged_claimZone _)
      fun wrong s _ => s.unless_telemetry wrong _⟩
  | releaseZone q tag payload =>
    cases h
    exact ⟨_, _, _, _, .onZone (fun _ => rfl) rfl (fun _ => rfl) (fun _ _ _ => rfl) (judged_releaseZone _)
      fun wrong s _ => s.unless_telemetry wrong _⟩
  | markCurrent q tag payload =>
    cases h
    exact ⟨_, _, _, _, .onZone (fun _ => rfl) rfl (fun _ => rfl) (fun _ _ _ => rfl) (judged_markCurrent _)
      fun wrong s _ => s.unless_telemetry wrong _⟩
  | readZone q tag payload =>
    cases h
    exact ⟨_, _, _, _, .onZone (fun _ => rfl) rfl (fun _ => rfl) (fun _ _ _ => rfl) judged_readZone role_any⟩
  | present q tag payload =>
    cases h
    exact ⟨_, _, _, _, .plain (fun _ => rfl) (parseEmpty_eq_none _) (fun _ => rfl) rfl (fun _ _ _ => .reports _ _ _)
      role_any⟩
  | setTimeout q tag payload =>
    cases h
    exact ⟨_, _, _, _, .plain (fun _ => rfl) (parse2_eq_none _) (fun _ => rfl) rfl
      (fun s _ _ => .applied _ _ (settles_setTimeout s _ _)) role_any⟩
  | setAllowance q tag payload =>
    cases h
    exact ⟨_, _, _, _, .plain (fun _ => rfl) (parse1_eq_none _) (fun _ => rfl) rfl
      (fun s _ _ => .applied _ _ (settles_setAllowance s _ _)) role_any⟩
  | readLink q tag payload =>
    cases h
    exact ⟨_, _, _, _, .plain (fun _ => rfl) (parseEmpty_eq_none _) (fun _ => rfl) rfl (fun _ _ _ => .reports _ _ _)
      role_any⟩
  | postHandover q tag payload =>
    cases h
    exact ⟨_, _, _, _, .plain (fun _ => rfl) (parse2_eq_none _) (fun _ => rfl) rfl (fun s a _ => judged_postHandover _ s a)
      fun wrong s _ => s.unless_telemetry wrong _⟩
  | takeHandover q tag payload =>
    cases h
    exact ⟨_, _, _, _, .plain (fun _ => rfl) (parseEmpty_eq_none _) (fun _ => rfl) rfl
      (fun s a _ => judged_takeHandover _ s a) fun wrong s _ => s.unless_telemetry wrong _⟩
  | silenceHorn q tag payload =>
    cases h
    exact ⟨_, _, _, _, .plain (fun _ => rfl) (parseEmpty_eq_none _) (fun _ => rfl) rfl
      (fun s a _ => judged_silenceHorn _ s a) fun wrong s _ => s.unless_desk wrong _⟩
  | startScan q tag payload u =>
    cases h
    exact ⟨_, _, _, _, .plain (fun _ => rfl) (parseEmpty_eq_none _) (fun _ => rfl) rfl
      (fun s a _ => judged_startScan _ s a) fun wrong s _ => s.unless_telemetry wrong _⟩
  | stopScan q tag payload =>
    cases h
    exact ⟨_, _, _, _, .plain (fun _ => rfl) (parseEmpty_eq_none _) (fun _ => rfl) rfl
      (fun s a _ => judged_stopScan _ s a) fun wrong s _ => s.unless_telemetry wrong _⟩
  | setLevels q tag payload =>
    cases h
    exact ⟨_, _, _, _, .plain (fun _ => rfl) (parseLevels_eq_none _) (fun _ => rfl) rfl
      (fun s _ read => judged_setLevels _ s (parseLevels_ok read)) fun wrong s _ => s.unless_desk wrong _⟩
  | setTiming q tag payload =>
    cases h
    exact ⟨_, _, _, _, .plain (fun _ => rfl) (parseTiming_eq_none _) (fun _ => rfl) rfl
      (fun s _ read => judged_setTiming _ s (parseTiming_ok read)) fun wrong s _ => s.unless_telemetry wrong _⟩
  | holdBoard q tag payload =>
    cases h
    exact ⟨_, _, _, _, .plain (fun _ => rfl) (parseEmpty_eq_none _) (fun _ => rfl) rfl
      (fun s a _ => judged_holdBoard _ s a) role_any⟩
  | releaseHold q tag payload =>
    cases h
    exact ⟨_, _, _, _, .plain (fun _ => rfl) (parseEmpty_eq_none _) (fun _ => rfl) rfl
      (fun s a _ => judged_releaseHold _ s a) role_any⟩
  | lampTestStart q tag payload =>
    cases h
    exact ⟨_, _, _, _, .plain (fun _ => rfl) (parseEmpty_eq_none _) (fun _ => rfl) rfl
      (fun s a _ => judged_lampTestStart _ s a) fun wrong s _ => s.unless_desk_or wrong _ _⟩
  | lampTestStop q tag payload =>
    cases h
    exact ⟨_, _, _, _, .plain (fun _ => rfl) (parseEmpty_eq_none _) (fun _ => rfl) rfl
      (fun s a _ => judged_lampTestStop _ s a) fun wrong s _ => s.unless_desk wrong _⟩
  | setString q tag payload u =>
    cases h
    exact ⟨_, _, _, _, .plain (fun _ => rfl) (parse2_eq_none _) (fun _ => rfl) rfl (fun s a _ => judged_setString _ s a)
      fun wrong s _ => s.unless_telemetry wrong _⟩
  | setSupervision q tag payload =>
    cases h
    exact ⟨_, _, _, _, .plain (fun _ => rfl) (parse2_eq_none _) (fun _ => rfl) rfl
      (fun s a _ => judged_setSupervision _ s a) fun wrong s _ => s.unless_telemetry wrong _⟩
  | readStrings q tag payload =>
    cases h
    exact ⟨_, _, _, _, .plain (fun _ => rfl) (parseEmpty_eq_none _) (fun _ => rfl) rfl (fun _ _ _ => .reports _ _ _)
      role_any⟩
  | takeFailures q tag payload =>
    cases h
    exact ⟨_, _, _, _, .plain (fun _ => rfl) (parse1_eq_none _) (fun _ => rfl) rfl (fun s a _ => judged_takeFailures s a)
      role_any⟩
  | readFault q tag payload =>
    cases h
    exact ⟨_, _, _, _, .plain (fun _ => rfl) (parseEmpty_eq_none _) (fun _ => rfl) rfl (fun _ _ _ => .reports _ _ _)
      role_any⟩
  | releaseFault q tag payload =>
    cases h
    exact ⟨_, _, _, _, .plain (fun _ => rfl) (parse1_eq_none _) (fun _ => rfl) rfl
      (fun s _ _ => .applied _ _ (settles_releaseFault s _)) role_any⟩
  | setFaultMask q tag payload =>
    cases h
    exact ⟨_, _, _, _, .plain (fun _ => rfl) (parse1_eq_none _) (fun _ => rfl) rfl
      (fun s a _ => judged_setFaultMask _ s a) fun wrong s _ => s.unless_telemetry wrong _⟩
  | setWindow q tag payload =>
    cases h
    exact ⟨_, _, _, _, .plain (fun _ => rfl) (parseSetWindow_eq_none _) (fun _ => rfl) rfl
      (fun s a _ => judged_setWindow s a) role_any⟩
  | readWatch q tag payload =>
    cases h
    exact ⟨_, _, _, _, .plain (fun _ => rfl) (parseEmpty_eq_none _) (fun _ => rfl) rfl (fun _ _ _ => .reports _ _ _)
      role_any⟩
  | releaseWatch q tag payload =>
    cases h
    exact ⟨_, _, _, _, .plain (fun _ => rfl) (parseEmpty_eq_none _) (fun _ => rfl) rfl
      (fun s _ _ => .applied _ _ (settles_releaseWatch s)) role_any⟩
  | setArbitration q tag payload =>
    cases h
    exact ⟨_, _, _, _, .plain (judge := judgeSetArbitration _) (fun _ => rfl) (parse1_eq_none _) (fun _ => rfl) rfl
      (fun s a _ => judged_setArbitration _ s a) fun wrong s _ => s.unless_telemetry wrong _⟩
  | setRouting q tag payload =>
    cases h
    exact ⟨_, _, _, _, .plain (fun _ => rfl) (parse2_eq_none _) (fun _ => rfl) rfl (fun s a _ => judged_setRouting s a)
      role_any⟩
  | takeNotices q tag payload =>
    cases h
    exact ⟨_, _, _, _, .plain (fun _ => rfl) (parseEmpty_eq_none _) (fun _ => rfl) rfl
      (fun s _ _ => .applied _ _ (settles_takeNotices s _)) role_any⟩
  | setCounter q tag payload =>
    cases h
    exact ⟨_, _, _, _, .plain (fun _ => rfl) (parseSetCounter_eq_none _) (fun _ => rfl) rfl
      (fun s a _ => judged_setCounter s a) role_any⟩
  | readCounters q tag payload =>
    cases h
    exact ⟨_, _, _, _, .plain (fun _ => rfl) (parseEmpty_eq_none _) (fun _ => rfl) rfl (fun _ _ _ => .reports _ _ _)
      role_any⟩
  | powerUpReset | validFrameArrival | frameDiscard | gapTimerExpiry | portReset | transmitReply | replySent
  | silenceTimerExpiry | holdLimitExpiry | lampTestInputAssertion | lampTestInputRelease | lampTestLimitExpiry
  | frameStart | subFrame | frameEnd | stringFrameEnd | byteTaken | resetPinAsserted | lineReturnedToMark => cases h

end Sys2Proof.Machine
end

section
/-! SUPPORT. What each event keeps, takings first (9.6), then the lines, timers and frames (chapters 3, 5, 6 and 9); and
with it the invariants over every step. -/

namespace Sys2Proof.Machine

/-! ### Takings -/

/-- The arbiter chooses only waiting ports (R158). -/
theorem State.choice_waiting {s : State} {p : Port} (h : s.choice = some p) : s.waiting p = true := by
  unfold choice at h
  split at h <;> exact List.find?_some h

theorem State.takes_iff (s : State) (p : Port) (cmd : Command) : s.takes p cmd = true ↔
    s.resetAsserted = false ∧ s.choice = some p ∧ (s.ports.get p).commands.head? = some cmd := by
  simp [takes, and_assoc]

/-- The port of a taking has room for the reply (R156, R158). -/
theorem State.room_of_takes {s : State} {p : Port} {cmd : Command} (h : s.takes p cmd = true) :
    (s.ports.get p).replies.length < 8 := by
  have waiting := choice_waiting ((s.takes_iff p cmd).1 h).2.1
  simp only [State.waiting, Bool.and_eq_true, decide_eq_true_eq] at waiting
  exact waiting.2

theorem State.judgedIn_eq (s : State) (p : Port) (c : Instr) :
    s.judgedIn p c = ((s.land c.upsets).takeHead p).checkLamps (((s.land c.upsets).takeHead p).named c) := rfl

theorem State.taken_attributedZone (s : State) (p : Port) (upsets : List Upset) (code : Byte) (payload : List Byte) :
    ((s.land upsets).takeHead p).attributedZone code payload = s.attributedZone code payload :=
  attributedZone_congr (by rw [takeHead_zones, land_frame]) code payload

/-- How a taking ends (R160, R161): refused LENGTH, or judged in the state in which its records have been read, with a
wrong role refused first; then concluded. -/
theorem exec_taking {c : Instr} {s : State} {p : Port} {cmd : Command} (h : c.command? = some (p, cmd))
    (taken : s.takes p cmd = true) : ∃ x : State × Answer,
      exec c s = .next (x.1.conclude p cmd (s.attributedZone cmd.code cmd.payload) x.2) ∧
      (lengthOk cmd.code cmd.payload = false → x = (s.judgedIn p c, ⟨.length, []⟩) ∧
        s.judgedIn p c = (s.land c.upsets).takeHead p ∧ s.attributedZone cmd.code cmd.payload = none) ∧
      (lengthOk cmd.code cmd.payload = true → Judged cmd.code (s.judgedIn p c) x ∧
        (roleOk p cmd.code cmd.payload = false → x = (s.judgedIn p c, ⟨.role, []⟩))) := by
  obtain ⟨α, parse, zone, judge, taking⟩ := exists_taking h
  rw [taking.runs]
  cases read : parse cmd.payload with
  | none =>
    have short := taking.length.1 read
    have same : s.judgedIn p c = (s.land c.upsets).takeHead p := by rw [State.judgedIn_eq, taking.unread read]; rfl
    have nowhere : s.attributedZone cmd.code cmd.payload = none := by simp [State.attributedZone, short]
    refine ⟨(s.judgedIn p c, ⟨.length, []⟩), ?_, fun _ => ⟨rfl, same, nowhere⟩, fun long => ?_⟩
    · rw [State.executes_length _ _ _ taken read, same, nowhere]
    · cases short.symm.trans long
  | some a =>
    refine ⟨judge ((s.land c.upsets).takeHead p) a, ?_, fun short => ?_, fun _ => ⟨taking.judged a read _, fun wrong => ?_⟩⟩
    · rw [State.executes_judged _ _ _ taken read, taking.zone a read, State.taken_attributedZone]
    · cases read.symm.trans (taking.length.2 short)
    · exact taking.role a read wrong _

theorem exec_not_taken {c : Instr} {s : State} {p : Port} {cmd : Command} (h : c.command? = some (p, cmd))
    (idle : s.takes p cmd = false) : exec c s = .next s := by
  obtain ⟨α, parse, zone, judge, taking⟩ := exists_taking h
  rw [taking.runs, State.executes_not_taken _ _ _ _ idle]

/-! ### Ports, counters and pins -/

theorem keeps_lines (s : State) (reset : Bool) (ports : PerPort PortState) (served : List Port) (counters : Vector Counter 4) :
    Keeps s { s with resetAsserted := reset, ports := ports, served := served, counters := counters } :=
  ⟨fun ok => ok.congr rfl rfl rfl rfl, fun ok => ok.congr rfl, fun _ ok => ok.congr rfl rfl, fun ok => ok.congr rfl,
    fun ok => ok.congr rfl rfl rfl rfl rfl rfl, fun ok => ok.congr rfl, fun ok => ok.congr rfl rfl rfl, rfl⟩

/-- A port whose receiver stands as it can and whose queues have at most 8 places taken (R153, R155, R156). -/
def PortState.Ok (q : PortState) : Prop := q.rx.ok ∧ q.commands.length ≤ 8 ∧ q.replies.length ≤ 8

theorem PortsOk.port {s : State} (ok : PortsOk s) (p : Port) : (s.ports.get p).Ok := ⟨ok.rx p, ok.commands p, ok.replies p⟩

theorem PortsOk.of_ports {s : State} (ports : ∀ p, (s.ports.get p).Ok) (served : s.served.Perm [.d, .t1, .t2]) :
    PortsOk s := ⟨fun p => (ports p).1, fun p => (ports p).2.1, fun p => (ports p).2.2, served⟩

theorem PortsOk.set {s : State} (ok : PortsOk s) {p : Port} {q : PortState} (new : q.Ok) (k : Port) :
    ((s.ports.set p q).get k).Ok := by
  rw [PerPort.get_set]
  split
  · exact new
  · exact ok.port k

theorem keepsAll_ports (s : State) (reset : Bool) (ports : PerPort PortState) (counters : Vector Counter 4)
    (ok : PortsOk s → ∀ p, (ports.get p).Ok) :
    KeepsAll s { s with resetAsserted := reset, ports := ports, counters := counters } :=
  ⟨keeps_lines s reset ports s.served counters, fun kept => .of_ports (ok kept) kept.served,
    fun kept => kept.congr rfl fun _ => ⟨rfl, rfl⟩⟩

theorem keepsAll_setPort (s : State) (p : Port) (q : PortState) (ok : (s.ports.get p).Ok → q.Ok) :
    KeepsAll s (s.setPort p q) :=
  keepsAll_ports s s.resetAsserted _ s.counters fun kept => kept.set (ok (kept.port p))

theorem keepsAll_report (s : State) (e : CounterEvent) (p : Option Port) (z : Option ZoneNo) :
    KeepsAll s (s.report e p z) := keepsAll_ports s s.resetAsserted s.ports _ fun ok => ok.port

@[refl] theorem KeepsAll.refl (s : State) : KeepsAll s s := (Settles.refl s).keepsAll

theorem KeepsAll.foldl {α : Type} {f : State → α → State} (h : ∀ s a, KeepsAll s (f s a)) (l : List α) (s : State) :
    KeepsAll s (l.foldl f s) := by
  induction l generalizing s with
  | nil => exact .refl s
  | cons a as ih => exact (h s a).trans (ih _)

/-! ### What a taking keeps -/

/-- The part of a judgement that all its ways share. -/
theorem Judged.keeps {code : Byte} {r : State} {x : State × Answer} (h : Judged code r x) :
    Keeps r x.1 ∧ x.1.ports = r.ports ∧ x.1.served = r.served ∧ (HornOk r → HornOk x.1) := by
  have settled {t : State} (k : Settles r t) : Keeps r t ∧ t.ports = r.ports ∧ t.served = r.served ∧ (HornOk r → HornOk t) :=
    ⟨k.toKeeps, k.ports, k.served, k.horn⟩
  cases h with
  | refused a refusing => exact settled (.refl r)
  | blocked hit payload => exact settled (settles_recordHit r hit)
  | applied t payload settles => exact settled settles
  | counterSet C payload set =>
    exact ⟨keeps_lines r r.resetAsserted r.ports r.served C, rfl, rfl, fun ok => ok.congr rfl fun _ => ⟨rfl, rfl⟩⟩

theorem State.judgedIn_settles (s : State) (p : Port) (c : Instr) :
    Settles ((s.land c.upsets).takeHead p) (s.judgedIn p c) := settles_checkLamps _ _

/-- A port moved to the end of the served order leaves it one of the three ports (R158). -/
theorem served_perm {l : List Port} (perm : l.Perm [.d, .t1, .t2]) (p : Port) :
    (l.filter (· ≠ p) ++ [p]).Perm [.d, .t1, .t2] := by
  refine ((perm.filter (· ≠ p)).append_right [p]).trans ?_
  cases p <;> decide

theorem keepsAll_taking {c : Instr} {s : State} {p : Port} {cmd : Command} (h : c.command? = some (p, cmd))
    (taken : s.takes p cmd = true) : ∃ t, exec c s = .next t ∧ KeepsAll s t := by
  obtain ⟨x, runs, short, long⟩ := exec_taking h taken
  have judged : Keeps (s.judgedIn p c) x.1 ∧ x.1.ports = (s.judgedIn p c).ports ∧
      x.1.served = (s.judgedIn p c).served ∧ (HornOk (s.judgedIn p c) → HornOk x.1) := by
    cases length : lengthOk cmd.code cmd.payload with
    | false => rw [(short length).1]; exact ⟨(KeepsAll.refl _).toKeeps, rfl, rfl, id⟩
    | true => exact (long length).1.keeps
  obtain ⟨keeps, ports, served, horn⟩ := judged
  have read := s.judgedIn_settles p c
  have landed := settles_land s c.upsets
  refine ⟨_, runs, ?_, fun ok => .of_ports (fun q => ?_) ?_, fun ok => ?_⟩
  · refine landed.toKeeps.trans (Keeps.trans ?_ ((read.toKeeps.trans keeps).trans (keeps_lines x.1 x.1.resetAsserted _ x.1.served _)))
    exact keeps_lines _ _ _ _ _
  · show ((x.1.ports.set p _).get q).Ok
    rw [ports, read.ports, State.takeHead_ports, landed.ports]
    simp only [PerPort.get_set, if_true]
    split
    · obtain ⟨rx, commands, -⟩ := ok.port p
      refine ⟨rx, ?_, ?_⟩
      · dsimp only
        rw [List.length_tail]
        omega
      · have room := State.room_of_takes taken
        dsimp only
        rw [List.length_append, List.length_singleton]
        omega
    · exact ok.port q
  · show x.1.served.Perm _
    rw [served, read.served, State.takeHead_served, landed.served]
    exact served_perm ok.served p
  · have concluded := horn (read.horn ((landed.horn ok).congr (t := (s.land c.upsets).takeHead p) rfl fun _ => ⟨rfl, rfl⟩))
    exact concluded.congr rfl fun _ => ⟨rfl, rfl⟩

/-! ### Receivers (R153 to R155) -/

theorem Receiver.idle_ok : Receiver.idle.ok := .inl rfl

/-- A receiver within a frame of at most 72 payload bytes, short of its last byte. -/
theorem Receiver.within_ok {len : Byte} {rest : List Byte} (bound : ¬ len.toNat > Config.maxPayload)
    (room : (len :: rest).length < frameBytes len) : Receiver.ok ⟨phaseOf (len :: rest), len :: rest, true⟩ := by
  refine .inr ⟨rfl, rfl, fun l r h => ?_⟩
  cases h
  exact ⟨Nat.le_of_not_gt bound, room⟩

theorem Receiver.started_ok : Receiver.ok ⟨.length, [], true⟩ := .inr ⟨rfl, rfl, fun _ _ h => by cases h⟩

/-- Whatever bytes are taken again, the receiver they end in is one that can stand (R154). -/
theorem hunt_ok (fuel : Nat) (bs : List Byte) : (hunt fuel bs).1.ok := by
  induction fuel generalizing bs with
  | zero => exact Receiver.idle_ok
  | succ fuel ih =>
    cases bs with
    | nil => exact Receiver.idle_ok
    | cons b rest =>
      unfold hunt
      split
      · exact ih rest
      · split
        · exact Receiver.started_ok
        · split
          · exact ih _
          · split
            · exact Receiver.within_ok ‹_› ‹_›
            · split
              · exact ih _
              · exact ih _

theorem Receiver.take_ok {rx : Receiver} (ok : rx.ok) (b : Byte) (bad : Bool) : (rx.take b bad).1.ok := by
  unfold Receiver.take
  split
  · split
    · exact Receiver.started_ok
    · exact ok
  · split
    · exact Receiver.idle_ok
    · dsimp only
      split
      · exact Receiver.idle_ok
      · split
        · exact Receiver.idle_ok
        · split
          · rename_i held long room
            rw [held] at room ⊢
            exact Receiver.within_ok long room
          · split
            · exact Receiver.idle_ok
            · exact hunt_ok _ _

/-! ### Lines (chapter 9) -/

theorem keepsAll_linkArrival (s : State) (p : Port) : KeepsAll s (s.linkArrival p) := by
  have heard : Settles s (s.setLink p { s.links.get p with state := .live, timer := some (s.links.get p).timeout }) := by
    refine Works.settles_of_eq ?_ rfl rfl
    exact works_heard s p _ (.inr rfl) fun ok => ⟨(ok p).1, (ok p).2.1, fun n h => by cases h; exact (ok p).1⟩
  unfold State.linkArrival
  dsimp only
  split
  · exact (heard.trans (settles_raise _ _)).keepsAll
  · exact heard.keepsAll

theorem keepsAll_offer (s : State) (p : Port) (cmd : Command) : KeepsAll s (s.offer p cmd) := by
  unfold State.offer
  dsimp only
  split
  · rename_i room
    refine keepsAll_setPort s p _ fun ok => ⟨ok.1, ?_, ok.2.2⟩
    dsimp only
    rw [List.length_append, List.length_singleton]
    exact room
  · refine KeepsAll.trans ?_ (keepsAll_report _ _ _ _)
    split
    · rename_i room
      refine keepsAll_setPort s p _ fun ok => ⟨ok.1, ok.2.1, ?_⟩
      dsimp only
      rw [List.length_append, List.length_singleton]
      exact room
    · exact .refl s

theorem keepsAll_arrive (s : State) (p : Port) (cmd : Command) : KeepsAll s (s.arrive p cmd) :=
  (keepsAll_linkArrival s p).trans (keepsAll_offer _ p cmd)

theorem keepsAll_rxOutput (s : State) (p : Port) (o : RxOutput) : KeepsAll s (s.rxOutput p o) := by
  cases o with
  | frame cmd => exact keepsAll_arrive s p cmd
  | discard => exact keepsAll_report s _ _ _

theorem keepsAll_takeByte (s : State) (p : Port) (b : Byte) (bad : Bool) : KeepsAll s (s.takeByte p b bad) := by
  refine KeepsAll.trans ?_ (KeepsAll.foldl (fun s o => keepsAll_rxOutput s p o) _ _)
  exact keepsAll_setPort s p _ fun ok => ⟨Receiver.take_ok ok.1 b bad, ok.2⟩

/-- A port whose receiver has gone back to HUNT. -/
theorem keepsAll_idle (s : State) (p : Port) : KeepsAll s (s.setPort p { s.ports.get p with rx := .idle }) :=
  keepsAll_setPort s p _ fun ok => ⟨Receiver.idle_ok, ok.2⟩

/-! ### Frames -/

theorem settles_subFrame (s : State) {j : Nat} (progress : s.progress = .driving j) (more : j < Config.subFrames)
    (latched : Vector (List Bool) 16) : Settles s { s with latched := latched, progress := .driving (j + 1) } :=
  settles_scan s s.scan s.session (.driving (j + 1)) s.nextFrame latched s.slowPhase s.fastPhase s.frameCount s.timing
    s.pendingTiming s.holdLimit s.testLimit s.strings fun ok =>
      ⟨fun dark => (by cases progress.symm.trans (ok.dark dark).2.2.1),
        fun run => ⟨fun h => (by cases h), (ok.running run).2⟩, fun k h => by cases h; exact more,
        fun l h => (by cases h), ok.timing, ok.limits, ok.strings⟩

theorem settles_frameEnd (s : State) (progress : s.progress = .driving Config.subFrames) :
    Settles s (State.report { s with progress := .answering s.driven } .framesScanned none none) := by
  refine Settles.trans ?_ (settles_report _ rfl _ _)
  refine settles_scan s s.scan s.session (.answering s.driven) s.nextFrame s.latched s.slowPhase s.fastPhase s.frameCount
    s.timing s.pendingTiming s.holdLimit s.testLimit s.strings fun ok =>
      ⟨fun dark => (by cases progress.symm.trans (ok.dark dark).2.2.1),
        fun run => ⟨fun h => (by cases h), (ok.running run).2⟩, fun k h => (by cases h), fun l h => ?_, ok.timing,
        ok.limits, ok.strings⟩
  cases h
  refine ⟨(List.nodup_finRange 16).filter _, fun n mem => ?_⟩
  simpa [State.driven] using mem

/-- The outputs off at the assertion of the reset pin (R163). -/
theorem settles_outputsOff (s : State) : Settles s { s with latched := Vector.replicate 16 [] } :=
  settles_scan s s.scan s.session s.progress s.nextFrame _ s.slowPhase s.fastPhase s.frameCount s.timing
    s.pendingTiming s.holdLimit s.testLimit s.strings fun ok =>
      ⟨fun dark => by
        obtain ⟨hold, session, progress, next, -⟩ := ok.dark dark
        exact ⟨hold, session, progress, next, State.lampOn_off rfl⟩,
        ok.running, ok.begun, ok.left, ok.timing, ok.limits, ok.strings⟩

/-! ### Power-up reset (R163) -/

theorem ownershipOk_reset : OwnershipOk .reset where
  owner z p h := by
    rw [show State.reset.zones[z] = ZoneRecord.reset from Vector.getElem_replicate _] at h
    cases h
  holder p h := by cases h
  poster p h := by cases h
  empty := ⟨fun _ => rfl, fun _ => rfl⟩
  word _ := rfl

theorem State.reset_zones (z : ZoneNo) : State.reset.zones[z] = ZoneRecord.reset := Vector.getElem_replicate _

theorem State.reset_lamps (i : Lamp) : State.reset.lamps[i] = LampRecord.reset := Vector.getElem_replicate _

theorem State.reset_strings (n : StringNo) : State.reset.strings[n] = StringRecord.reset := Vector.getElem_replicate _

theorem zonesOk_reset : ZonesOk .reset where
  range z := by rw [State.reset_zones]; decide
  disabled z _ := by rw [State.reset_zones]; exact ⟨rfl, rfl, rfl, rfl, rfl⟩
  disjoint y z _ on := by rw [State.reset_zones] at on; cases on

theorem alarmsOk_reset : AlarmsOk .reset where
  unack z on := by rw [State.reset_zones] at on; cases on
  standing z on := by rw [State.reset_zones] at on; cases on
  capable i _ := by rw [State.reset_lamps]; rfl

theorem hornOk_reset : HornOk .reset := fun sounding => by cases sounding

theorem portsOk_reset : PortsOk .reset := by
  refine .of_ports (fun p => ?_) (List.Perm.refl _)
  rw [show State.reset.ports.get p = PortState.reset from PerPort.get_all _ p]
  exact ⟨Receiver.idle_ok, Nat.zero_le _, Nat.zero_le _⟩

theorem scanOk_reset : ScanOk .reset where
  dark _ := ⟨rfl, rfl, rfl, rfl, State.lampOn_off rfl⟩
  running h := by cases h
  begun j h := by cases h
  left l h := by cases h
  timing := ⟨by unfold Timing.ok; decide, fun t h => by cases h⟩
  limits := by decide
  strings n := by
    rw [State.reset_strings]
    exact ⟨by decide, by decide, by decide, fun c h => by cases h⟩

theorem lampsOk_reset : LampsOk .reset where
  runCount i := by rw [State.reset_lamps]; decide
  supervised i := by rw [State.reset_lamps]; decide
  suspect i := by rw [State.reset_lamps]; decide
  rendering i := by
    rw [State.reset_lamps, show State.reset.snapshot[i] = ⟨.dark, 0⟩ from Vector.getElem_replicate _,
      show State.reset.drive[i] = 0 from Vector.getElem_replicate _]
    unfold Rendering.ok
    decide
  levels := by decide
  thresholds := by decide

theorem linksOk_reset : LinksOk .reset := by
  intro p
  rw [show State.reset.links.get p = LinkRecord.reset from PerPort.get_all _ p]
  exact ⟨by decide, by decide, fun n h => by cases h⟩

theorem recordsOk_reset : RecordsOk .reset where
  free _ := ⟨rfl, rfl, rfl, rfl⟩
  frozen h := by cases h
  capture _ := rfl
  failures := ⟨Nat.zero_le _, List.nodup_nil⟩

/-- Settles O19, block by block. -/
theorem invariantsHoldAtReset : Obligations.InvariantsHoldAtReset :=
  ⟨ownershipOk_reset, zonesOk_reset, alarmsOk_reset, hornOk_reset, portsOk_reset, scanOk_reset, lampsOk_reset,
    linksOk_reset, recordsOk_reset⟩

theorem keepsAll_powerUp (s : State) (rate : LineRate) (lampTest : Bool) :
    KeepsAll s { State.reset with lineRate := rate, testInput := lampTest, pending := s.pending } :=
  ⟨⟨fun _ => ownershipOk_reset.congr rfl rfl rfl rfl, fun _ => zonesOk_reset.congr rfl,
    fun _ _ => alarmsOk_reset.congr rfl rfl, fun _ => scanOk_reset.congr rfl,
    fun _ => lampsOk_reset.congr rfl rfl rfl rfl rfl rfl, fun _ => linksOk_reset.congr rfl,
    fun _ => recordsOk_reset.congr rfl rfl rfl, rfl⟩,
    fun _ => portsOk_reset.congr rfl rfl, fun _ => hornOk_reset.congr rfl fun _ => ⟨rfl, rfl⟩⟩

/-! ### Every event -/

theorem keepsAll_ite {c : Prop} [Decidable c] {s t u : State} (yes : c → KeepsAll s t) (no : ¬ c → KeepsAll s u) :
    KeepsAll s (if c then t else u) := by
  split
  · exact yes ‹_›
  · exact no ‹_›

/-- An event completes, keeping all the invariants and the queue of waiting events. -/
def Completes (c : Instr) : Prop := ∀ s : State, ∃ t, exec c s = .next t ∧ KeepsAll s t

theorem completes_taking {c : Instr} {p : Port} {cmd : Command} (h : c.command? = some (p, cmd)) : Completes c := by
  intro s
  cases taken : s.takes p cmd with
  | false => exact ⟨s, exec_not_taken h taken, .refl s⟩
  | true => exact keepsAll_taking h taken

theorem completes_unknownCommand (p : Port) (tag code : Byte) (payload : List Byte) :
    Completes (.unknownCommand p tag code payload) := by
  by_cases known : code ∈ knownCodes
  · exact fun s => ⟨s, congrArg Host.Outcome.next (if_pos known), .refl s⟩
  · exact completes_taking (if_neg known)

theorem completes_silenceTimerExpiry (p : Port) : Completes (.silenceTimerExpiry p) := by
  refine fun s => ⟨_, rfl, keepsAll_ite (fun _ => .refl s) fun _ => ?_⟩
  refine ((works_expiry s p).settles_of_eq ?_ ?_).keepsAll <;> split
  · rw [State.lapse_frame]; rfl
  · rfl
  · rw [State.lapse_frame]; rfl
  · rfl

theorem completes_lampTestInputAssertion : Completes .lampTestInputAssertion := by
  refine fun s => ⟨_, rfl, keepsAll_ite (fun _ => .refl s) fun _ => ?_⟩
  have input : Settles s { s with testInput := true } := settles_settings s s.mode s.windows s.routing true
  refine keepsAll_ite (fun idle => ?_) fun _ => input.keepsAll
  refine (input.trans (settles_beginSession _ .pin fun dark => ?_)).keepsAll
  cases idle.1.symm.trans dark

theorem completes_lampTestInputRelease : Completes .lampTestInputRelease := by
  refine fun s => ⟨_, rfl, keepsAll_ite (fun _ => .refl s) fun _ => ?_⟩
  have input : Settles s { s with testInput := false } := settles_settings s s.mode s.windows s.routing false
  exact keepsAll_ite (fun _ => (input.trans (settles_endSession _)).keepsAll) fun _ => input.keepsAll

theorem completes_frameStart (upsets : List Upset) : Completes (.frameStart upsets) := by
  refine fun s => ⟨_, rfl, keepsAll_ite (fun due => ?_) fun _ => .refl s⟩
  refine ((settles_land s upsets).trans (settles_frameStart _ ?_)).keepsAll
  rw [State.land_frame]
  exact due.2.1

theorem completes_subFrame : Completes .subFrame := by
  refine fun s => ⟨_, rfl, ?_⟩
  split
  · exact keepsAll_ite (fun more => (settles_subFrame s ‹_› more _).keepsAll) fun _ => .refl s
  · exact .refl s

theorem completes_frameEnd : Completes .frameEnd :=
  fun s => ⟨_, rfl, keepsAll_ite (fun closed => (settles_frameEnd s closed.2).keepsAll) fun _ => .refl s⟩

theorem completes_stringFrameEnd (n : StringNo) (answering : Nat) (sensed : List Sensed) (upsets : List Upset) :
    Completes (.stringFrameEnd n answering sensed upsets) := by
  refine fun s => ⟨_, rfl, ?_⟩
  split
  · rename_i left _ progress
    refine keepsAll_ite (fun mem => ?_) fun _ => .refl s
    refine ((settles_land s upsets).trans (settles_answer _ n answering sensed left ?_ mem)).keepsAll
    rw [State.land_frame]
    exact progress
  · exact .refl s

theorem completes_transmitReply (p : Port) : Completes (.transmitReply p) := by
  refine fun s => ⟨_, rfl, keepsAll_ite (fun _ => .refl s) fun _ => ?_⟩
  split
  · rename_i replies
    refine keepsAll_setPort s p _ fun ok => ⟨ok.1, ok.2.1, ?_⟩
    have bound := ok.2.2
    rw [replies, List.length_cons] at bound
    dsimp only
    omega
  · exact .refl s

theorem completes_portReset (p : Port) : Completes (.portReset p) := by
  refine fun s => ⟨_, rfl, keepsAll_ite (fun _ => ?_) fun _ => .refl s⟩
  have emptied : KeepsAll s (s.setPort p ⟨.idle, true, [], [], (s.ports.get p).sending⟩) :=
    keepsAll_setPort s p _ fun _ => ⟨Receiver.idle_ok, Nat.zero_le _, Nat.zero_le _⟩
  exact keepsAll_ite (fun _ => emptied) fun _ => emptied.trans (keepsAll_report _ _ _ _)

theorem completes_resetPinAsserted : Completes .resetPinAsserted := by
  refine fun s => ⟨_, rfl, (settles_outputsOff s).keepsAll.trans ?_⟩
  refine keepsAll_ports { s with latched := Vector.replicate 16 [] } true _ s.counters fun ok p => ?_
  rw [PerPort.get_map]
  exact ok.port p

theorem completes (c : Instr) : Completes c := by
  cases c with
  | powerUpReset rate1 rate0 lampTest => exact fun s => ⟨_, rfl, keepsAll_powerUp s _ lampTest⟩
  | validFrameArrival p tag code payload =>
    exact fun s => ⟨_, rfl, keepsAll_ite (fun _ => (keepsAll_idle s p).trans (keepsAll_arrive _ p _)) fun _ => .refl s⟩
  | frameDiscard p b bad =>
    exact fun s => ⟨_, rfl, keepsAll_ite (fun _ => keepsAll_takeByte s p b bad) fun _ => .refl s⟩
  | byteTaken p b bad =>
    exact fun s => ⟨_, rfl, keepsAll_ite (fun _ => keepsAll_takeByte s p b bad) fun _ => .refl s⟩
  | gapTimerExpiry p =>
    exact fun s => ⟨_, rfl, keepsAll_ite (fun _ => (keepsAll_idle s p).trans (keepsAll_report _ _ _ _)) fun _ => .refl s⟩
  | portReset p => exact completes_portReset p
  | transmitReply p => exact completes_transmitReply p
  | replySent p =>
    exact fun s => ⟨_, rfl, keepsAll_ite (fun _ => .refl s) fun _ => keepsAll_setPort s p _ id⟩
  | lineReturnedToMark p =>
    exact fun s => ⟨_, rfl, keepsAll_ite (fun _ => .refl s) fun _ => keepsAll_setPort s p _ id⟩
  | resetPinAsserted => exact completes_resetPinAsserted
  | silenceTimerExpiry p => exact completes_silenceTimerExpiry p
  | holdLimitExpiry =>
    exact fun s => ⟨_, rfl, keepsAll_ite (fun _ => .refl s) fun _ => (settles_endHold s).keepsAll⟩
  | lampTestInputAssertion => exact completes_lampTestInputAssertion
  | lampTestInputRelease => exact completes_lampTestInputRelease
  | lampTestLimitExpiry =>
    exact fun s => ⟨_, rfl, keepsAll_ite (fun _ => .refl s) fun _ => (settles_endSession s).keepsAll⟩
  | frameStart upsets => exact completes_frameStart upsets
  | subFrame => exact completes_subFrame
  | frameEnd => exact completes_frameEnd
  | stringFrameEnd n answering sensed upsets => exact completes_stringFrameEnd n answering sensed upsets
  | unknownCommand p tag code payload => exact completes_unknownCommand p tag code payload
  | writeAspects | setAttributes | forceLamp | unforce | readLamps | defineZone | disableZone | claimZone | releaseZone
  | markCurrent | readZone | present | setTimeout | setAllowance | readLink | postHandover | takeHandover | raiseAlarm
  | clearAlarm | acknowledge | silenceHorn | startScan | stopScan | setLevels | setTiming | holdBoard | releaseHold
  | lampTestStart | lampTestStop | setString | setSupervision | readStrings | takeFailures | readFault | releaseFault
  | setFaultMask | setWindow | readWatch | releaseWatch | setArbitration | setRouting | takeNotices | setCounter
  | readCounters => exact completes_taking rfl

/-! ### Every step -/

/-- Settles O1: the two equations of a step. -/
theorem stepRunsTheFrontEvent : Obligations.StepRunsTheFrontEvent := fun _ _ _ => ⟨step_front, step_idle⟩

/-- Settles O2: every event completes, and none has the queue among the fields it changes. -/
theorem everyEventCompletes : Obligations.EveryEventCompletes := by
  intro c s
  obtain ⟨t, runs, keeps⟩ := completes c s
  exact ⟨t, runs, keeps.pending⟩

/-- What holds of a step: with the front event off the queue, all is kept. -/
theorem step_keepsAll {s t : State} (h : step s = .next t) : ∃ rest, KeepsAll { s with pending := rest } t := by
  cases queue : s.pending with
  | nil =>
    rw [step_idle queue] at h
    cases h
    exact ⟨s.pending, .refl s⟩
  | cons c rest =>
    rw [step_front queue] at h
    obtain ⟨u, runs, keeps⟩ := completes c { s with pending := rest }
    cases runs.symm.trans h
    exact ⟨rest, keeps⟩

/-- Settles O10: no invariant but this one is needed, and every piece of every event keeps it. -/
theorem ownershipIsKept : Obligations.OwnershipIsKept := by
  intro s t ok h
  obtain ⟨rest, keeps⟩ := step_keepsAll h
  exact keeps.ownership (ok.congr rfl rfl rfl rfl)

/-- Settles O11. -/
theorem zoneTableIsKept : Obligations.ZoneTableIsKept := by
  intro s t ok h
  obtain ⟨rest, keeps⟩ := step_keepsAll h
  exact keeps.zones (ok.congr rfl)

/-- Settles O12: the zone table says which zone a lamp counts in. -/
theorem alarmCountsAreKept : Obligations.AlarmCountsAreKept := by
  intro s t zones ok h
  obtain ⟨rest, keeps⟩ := step_keepsAll h
  exact keeps.alarms (zones.congr rfl) (ok.congr rfl rfl)

/-- Settles O13: every piece that can end the last SOUND lamp's stay in NEW settles the horn. -/
theorem hornLawIsKept : Obligations.HornLawIsKept := by
  intro s t ok h
  obtain ⟨rest, keeps⟩ := step_keepsAll h
  exact keeps.horn (ok.congr rfl fun _ => ⟨rfl, rfl⟩)

/-- Settles O14. -/
theorem portsAreKept : Obligations.PortsAreKept := by
  intro s t ok h
  obtain ⟨rest, keeps⟩ := step_keepsAll h
  exact keeps.ports (ok.congr rfl rfl)

/-- Settles O15. -/
theorem scanIsKept : Obligations.ScanIsKept := by
  intro s t ok h
  obtain ⟨rest, keeps⟩ := step_keepsAll h
  exact keeps.scan (ok.congr rfl)

/-- Settles O16. -/
theorem lampRecordsAreKept : Obligations.LampRecordsAreKept := by
  intro s t ok h
  obtain ⟨rest, keeps⟩ := step_keepsAll h
  exact keeps.lamps (ok.congr rfl rfl rfl rfl rfl rfl)

/-- Settles O17. -/
theorem linkRecordsAreKept : Obligations.LinkRecordsAreKept := by
  intro s t ok h
  obtain ⟨rest, keeps⟩ := step_keepsAll h
  exact keeps.links (ok.congr rfl)

/-- Settles O18. -/
theorem frozenRecordsAreKept : Obligations.FrozenRecordsAreKept := by
  intro s t ok h
  obtain ⟨rest, keeps⟩ := step_keepsAll h
  exact keeps.records (ok.congr rfl rfl rfl)

end Sys2Proof.Machine
end

section
/-! SUPPORT. The arbiter and the executor: the choice of a port, and what every taking does whatever its command
(9.5, 9.6). -/

namespace Sys2Proof.Machine

/-! ### The arbiter (R158) -/

/-- The first member with a property is the one that stands before all others with it. -/
theorem find?_eq_some_iff_idxOf {α : Type} [DecidableEq α] {l : List α} {p : α} (f : α → Bool) (mem : p ∈ l) :
    l.find? f = some p ↔ f p = true ∧ ∀ q ∈ l, f q = true → l.idxOf p ≤ l.idxOf q := by
  induction l with
  | nil => cases mem
  | cons a as ih =>
    by_cases first : f a = true
    · rw [List.find?_cons_of_pos first, Option.some.injEq]
      constructor
      · rintro rfl
        exact ⟨first, fun q _ _ => by rw [List.idxOf_cons_self]; exact Nat.zero_le _⟩
      · rintro ⟨-, least⟩
        by_contra other
        have := least a (by simp) first
        rw [List.idxOf_cons_self, List.idxOf_cons_ne _ other] at this
        omega
    · rw [List.find?_cons_of_neg first]
      by_cases same : p = a
      · subst same
        exact ⟨fun h => absurd (List.find?_some h) first, fun h => absurd h.1 first⟩
      · have later : ∀ q, f q = true → a ≠ q := fun q hq h => first (h ▸ hq)
        rw [ih ((List.mem_cons.1 mem).resolve_left same)]
        refine and_congr_right fun hp => ⟨fun least q hq found => ?_, fun least q hq found => ?_⟩
        · rw [List.idxOf_cons_ne _ (later p hp), List.idxOf_cons_ne _ (later q found)]
          exact Nat.succ_le_succ (least q ((List.mem_cons.1 hq).resolve_left (later q found).symm) found)
        · have := least q (List.mem_cons_of_mem a hq) found
          rw [List.idxOf_cons_ne _ (later p hp), List.idxOf_cons_ne _ (later q found)] at this
          exact Nat.le_of_succ_le_succ this

/-- Settles O6: the arbiter takes the first waiting port of the order its mode goes by, in which every port stands. -/
theorem arbiterChoosesAWaitingPort : Obligations.ArbiterChoosesAWaitingPort := by
  intro s perm p
  have waiting : s.waiting p = true ↔ (s.ports.get p).commands ≠ [] ∧ (s.ports.get p).replies.length < 8 := by
    simp only [State.waiting, Bool.and_eq_true, decide_eq_true_eq, Bool.not_eq_true', List.isEmpty_eq_false_iff]
    exact Iff.rfl
  refine ⟨waiting, ?_⟩
  have order {l : List Port} (all : ∀ q : Port, q ∈ l) : l.find? s.waiting = some p ↔
      s.waiting p = true ∧ ∀ q : Port, s.waiting q = true → l.idxOf p ≤ l.idxOf q := by
    rw [find?_eq_some_iff_idxOf s.waiting (all p)]
    exact and_congr_right fun _ => forall_congr' fun q => by simp [all q]
  cases mode : s.mode with
  | fair =>
    rw [State.choice, mode]
    exact order fun q => perm.mem_iff.2 (by cases q <;> decide)
  | priority =>
    rw [State.choice, mode]
    exact order fun q => by cases q <;> decide

/-! ### Every taking (R155, R160 to R162, R168) -/

theorem State.conclude_ports (s : State) (p : Port) (cmd : Command) (z : Option ZoneNo) (a : Answer) :
    (s.conclude p cmd z a).ports = s.ports.set p { s.ports.get p with
      replies := (s.ports.get p).replies ++ [⟨cmd.tag, cmd.code, a.status, a.payload⟩] } := rfl

theorem State.conclude_served (s : State) (p : Port) (cmd : Command) (z : Option ZoneNo) (a : Answer) :
    (s.conclude p cmd z a).served = s.served := rfl

theorem State.conclude_counters (s : State) (p : Port) (cmd : Command) (z : Option ZoneNo) (a : Answer) (j : CounterNo) :
    (s.conclude p cmd z a).counters[j] =
      if s.counters[j].counts (if a.status = .done then .commandsDone else .commandsRefused) (some p) z then
        s.counters[j].bump else s.counters[j] :=
  State.report_get _ _ _ _ j.val j.isLt

/-- The last reply of a port for which a taking has been concluded is that of the taking. -/
theorem State.conclude_last (s : State) (p : Port) (cmd : Command) (z : Option ZoneNo) (a : Answer) :
    ((s.conclude p cmd z a).ports.get p).replies.getLast?.map Reply.status = some a.status := by
  rw [conclude_ports, PerPort.get_set_same]
  simp

/-- What a judgement leaves of the ports and of the counting of commands, however it ends. -/
theorem taking_leaves {c : Instr} {s : State} {p : Port} {cmd : Command} {x : State × Answer}
    (short : lengthOk cmd.code cmd.payload = false → x = (s.judgedIn p c, ⟨.length, []⟩))
    (long : lengthOk cmd.code cmd.payload = true → Judged cmd.code (s.judgedIn p c) x) :
    x.1.ports = (s.takeHead p).ports ∧ x.1.served = (s.takeHead p).served ∧
      (cmd.code ≠ 0x92 ∨ x.2.status ≠ .done → ∀ j : CounterNo, s.counters[j].event.ofCommands = true →
        x.1.counters[j] = s.counters[j]) := by
  have read := s.judgedIn_settles p c
  have landed := settles_land s c.upsets
  have begun : ∀ j : CounterNo, s.counters[j].event.ofCommands = true → (s.judgedIn p c).counters[j] = s.counters[j] := by
    intro j selects
    have same := landed.counted j selects
    exact (read.counted j (by rw [State.takeHead_counters, same]; exact selects)).trans same
  have ports : (s.judgedIn p c).ports = (s.takeHead p).ports := by
    rw [read.ports, State.takeHead_ports, State.takeHead_ports, landed.ports]
  have served : (s.judgedIn p c).served = (s.takeHead p).served := by
    rw [read.served, State.takeHead_served, State.takeHead_served, landed.served]
  cases length : lengthOk cmd.code cmd.payload with
  | false => rw [short length]; exact ⟨ports, served, fun _ => begun⟩
  | true =>
    have judged := long length
    obtain ⟨-, samePorts, sameServed, -⟩ := judged.keeps
    refine ⟨samePorts.trans ports, sameServed.trans served, fun other j selects => ?_⟩
    have selects' : (s.judgedIn p c).counters[j].event.ofCommands = true := by rw [begun j selects]; exact selects
    refine Eq.trans ?_ (begun j selects)
    cases judged with
    | refused a refusing => rfl
    | blocked hit payload => exact (settles_recordHit _ hit).counted j selects'
    | applied t payload settles => exact settles.counted j selects'
    | counterSet C payload set =>
      rcases other with other | other
      · exact absurd set other
      · exact absurd rfl other

/-- Settles O5: the queue's head goes as the taking begins, the reply and the counting come as it ends, and no judgement
between the two touches a port or the counting of commands. -/
theorem everyTakingYieldsOneReply : Obligations.EveryTakingYieldsOneReply := by
  intro c s p cmd h
  refine ⟨exec_not_taken h, fun taken => ?_⟩
  obtain ⟨x, runs, short, long⟩ := exec_taking h taken
  obtain ⟨ports, served, counted⟩ := taking_leaves (fun h => (short h).1) fun h => (long h).1
  refine ⟨_, x.2, runs, ?_, fun q other => ?_, ?_, fun set j selects => ?_⟩
  · rw [State.conclude_ports, PerPort.get_set_same, ports, State.takeHead_ports, PerPort.get_set_same]
  · rw [State.conclude_ports, PerPort.get_set_other _ _ other, ports, State.takeHead_ports,
      PerPort.get_set_other _ _ other]
  · rw [State.conclude_served, served, State.takeHead_served]
  · have same := counted set j (by simpa [CounterEvent.ofCommands] using selects)
    rw [State.conclude_counters, same]

theorem Status.refusing_ne {status : Status} (h : status.refusing = true) :
    status ≠ .done ∧ status ≠ .length ∧ status ≠ .blocked := by
  cases status <;> simp_all [Status.refusing]

theorem Judged.status_ne_length {code : Byte} {r : State} {x : State × Answer} (h : Judged code r x) :
    x.2.status ≠ .length := by
  cases h with
  | refused a refusing => exact (Status.refusing_ne refusing).2.1
  | blocked | applied | counterSet => exact fun h => by cases h

/-- Settles O7: a payload cannot be read exactly if its length is wrong, and no later check answers LENGTH. -/
theorem wrongLengthIsRefused : Obligations.WrongLengthIsRefused := by
  intro c s p cmd h taken
  obtain ⟨x, runs, short, long⟩ := exec_taking h taken
  refine ⟨fun wrong => ?_, fun right t ht => ?_⟩
  · obtain ⟨rfl, same, nowhere⟩ := short wrong
    rw [runs, nowhere]
    exact congrArg _ (congrArg (State.conclude · p cmd none ⟨.length, []⟩) same)
  · cases runs.symm.trans ht
    rw [State.conclude_last, ne_eq, Option.some.injEq]
    exact (long right).1.status_ne_length

/-- Settles O8: an unknown code is read whatever its payload and judged UNKNOWN, and the role check comes right after
the reading of the payload. -/
theorem unknownCodeAndWrongRole : Obligations.UnknownCodeAndWrongRole := by
  refine ⟨fun s p tag code payload known taken => ?_, fun c s p cmd h taken length role => ?_⟩
  · rw [(isTaking_unknownCommand p tag payload known).runs, State.executes_judged _ _ _ taken rfl]
    rfl
  · obtain ⟨x, runs, -, long⟩ := exec_taking h taken
    have same := (long length).2 role
    rw [Instr.refusedWith, runs, same]

/-- Settles O9: a refusal other than BLOCKED has its judgement's state as it was, and BLOCKED only records a hit. -/
theorem refusedCommandWritesNothing : Obligations.RefusedCommandWritesNothing := by
  intro c s p cmd h taken
  obtain ⟨x, runs, short, long⟩ := exec_taking h taken
  refine ⟨_, runs, fun status last refused => ?_⟩
  rw [State.conclude_last, Option.some.injEq] at last
  subst last
  cases length : lengthOk cmd.code cmd.payload with
  | false => rw [(short length).1]; exact ⟨rfl, fun _ => ⟨rfl, rfl⟩⟩
  | true =>
    have judged := (long length).1
    cases judged with
    | refused a refusing => exact ⟨rfl, fun _ => ⟨rfl, rfl⟩⟩
    | blocked hit payload =>
      refine ⟨?_, fun other => absurd rfl other⟩
      dsimp only
      rw [State.conclude_frame, State.recordHit_frame]
    | applied t payload settles => exact absurd rfl refused
    | counterSet C payload set => exact absurd rfl refused

end Sys2Proof.Machine
end

section
/-! SUPPORT. The lines: receivers and what they bring about, port resets, transmitters, and the reset pin (9.1 to 9.4,
9.7). -/

namespace Sys2Proof.Machine

/-! ### Bytes taken one after another -/

theorem Receiver.feed_from (rx : Receiver) (out : List RxOutput) (bs : List Byte) :
    bs.foldl (fun a b => ((a.1.take b false).1, a.2 ++ (a.1.take b false).2)) (rx, out) =
      ((rx.feed bs).1, out ++ (rx.feed bs).2) := by
  induction bs generalizing rx out with
  | nil => simp [feed]
  | cons b bs ih =>
    unfold feed
    rw [List.foldl_cons, List.foldl_cons, ih, ih]
    simp

@[simp] theorem Receiver.feed_nil (rx : Receiver) : rx.feed [] = (rx, []) := rfl

theorem Receiver.feed_cons (rx : Receiver) (b : Byte) (bs : List Byte) :
    rx.feed (b :: bs) = (((rx.take b false).1.feed bs).1, (rx.take b false).2 ++ ((rx.take b false).1.feed bs).2) := by
  rw [feed, List.foldl_cons, feed_from, List.nil_append]

theorem Receiver.feed_append (rx : Receiver) (as bs : List Byte) :
    rx.feed (as ++ bs) = (((rx.feed as).1.feed bs).1, (rx.feed as).2 ++ ((rx.feed as).1.feed bs).2) := by
  rw [feed, List.foldl_append, feed_from]
  rfl

/-! ### One byte (R153) -/

/-- A receiver in HUNT starts a frame at a SYNC byte and passes over any other (R153). -/
theorem Receiver.take_hunt {rx : Receiver} (hunting : rx.phase = .hunt) (b : Byte) (bad : Bool) :
    rx.take b bad = if bad = false ∧ b = 0xA5 then (⟨.length, [], true⟩, []) else (rx, []) := by
  unfold take
  rw [hunting]
  show (if (!bad && decide (b = 0xA5)) = true then _ else _) = _
  simp only [Bool.and_eq_true, Bool.not_eq_true', decide_eq_true_eq]

theorem Receiver.take_bad {rx : Receiver} (within : rx.phase ≠ .hunt) (b : Byte) :
    rx.take b true = (.idle, [.discard]) := by
  unfold take
  cases phase : rx.phase with
  | hunt => exact absurd phase within
  | length | body | check => rfl

/-- A byte within a frame, by the bytes then held (R153, R154). -/
theorem Receiver.take_within {rx : Receiver} (within : rx.phase ≠ .hunt) {b len : Byte} {rest : List Byte}
    (held : rx.held ++ [b] = len :: rest) : rx.take b false =
      if len.toNat > 72 then (.idle, [.discard])
      else if (len :: rest).length < len.toNat + 5 then (⟨phaseOf (len :: rest), len :: rest, true⟩, [])
      else match frameOf? (len :: rest) with
        | some c => (.idle, [.frame c])
        | none => ((hunt ((len :: rest).length + 1) (len :: rest)).1,
            .discard :: (hunt ((len :: rest).length + 1) (len :: rest)).2) := by
  unfold take
  rw [held]
  cases phase : rx.phase with
  | hunt => exact absurd phase within
  | length | body | check => rfl

theorem phaseOf_ne_hunt (held : List Byte) : phaseOf held ≠ .hunt := by
  cases held with
  | nil => decide
  | cons len rest =>
    rw [phaseOf]
    split <;> simp

/-- A receiver that holds some bytes of a frame and takes more of them, short of the last. -/
theorem Receiver.feed_within {len : Byte} (bound : len.toNat ≤ 72) (rest more : List Byte)
    (short : (len :: rest ++ more).length < len.toNat + 5) :
    Receiver.feed ⟨phaseOf (len :: rest), len :: rest, true⟩ more =
      (⟨phaseOf (len :: rest ++ more), len :: rest ++ more, true⟩, []) := by
  induction more generalizing rest with
  | nil => simp
  | cons b more ih =>
    have held : len :: rest ++ b :: more = len :: (rest ++ [b]) ++ more := by simp
    have room : ¬ len.toNat > 72 := Nat.not_lt.2 bound
    have early : (len :: (rest ++ [b])).length < len.toNat + 5 := by
      simp only [List.length_cons, List.length_append, List.length_nil] at short ⊢
      omega
    rw [feed_cons, take_within (rx := ⟨phaseOf (len :: rest), len :: rest, true⟩) (phaseOf_ne_hunt (len :: rest))
      (rest := rest ++ [b]) rfl, if_neg room, if_pos early,
      ih (rest ++ [b]) (by rw [← held]; exact short), held]
    rfl

/-- The bytes of a frame up to, and not with, its last, taken by a receiver right after the SYNC. -/
theorem Receiver.feed_started {len : Byte} (bound : len.toNat ≤ 72) (more : List Byte)
    (short : (len :: more).length < len.toNat + 5) :
    Receiver.feed ⟨.length, [], true⟩ (len :: more) = (⟨phaseOf (len :: more), len :: more, true⟩, []) := by
  have first : Receiver.take ⟨.length, [], true⟩ len false = (⟨phaseOf [len], [len], true⟩, []) := by
    rw [take_within (rx := ⟨.length, [], true⟩) (by decide) (len := len) (rest := []) rfl, if_neg (Nat.not_lt.2 bound),
      if_pos]
    simp only [List.length_cons, List.length_nil]
    omega
  rw [feed_cons, first, feed_within bound [] more short]
  rfl

/-- The bytes of a whole frame: its command if its CHECK matches, else a discard and the bytes held taken again. -/
theorem Receiver.feed_frame {len : Byte} (bound : len.toNat ≤ 72) (rest : List Byte)
    (whole : (len :: rest).length = len.toNat + 5) :
    Receiver.feed ⟨.length, [], true⟩ (len :: rest) = match frameOf? (len :: rest) with
      | some c => (.idle, [.frame c])
      | none => ((hunt ((len :: rest).length + 1) (len :: rest)).1,
          .discard :: (hunt ((len :: rest).length + 1) (len :: rest)).2) := by
  obtain ⟨front, last, rfl⟩ : ∃ front last, rest = front ++ [last] := by
    refine ⟨rest.dropLast, rest.getLast ?_, (List.dropLast_append_getLast _).symm⟩
    rintro rfl
    simp at whole
  simp only [List.length_cons, List.length_append, List.length_nil] at whole
  rw [← List.cons_append, feed_append, feed_started bound front (by simp only [List.length_cons]; omega)]
  dsimp only
  rw [List.nil_append, feed_cons,
    take_within (rx := ⟨phaseOf (len :: front), len :: front, true⟩) (phaseOf_ne_hunt (len :: front))
      (rest := front ++ [last]) rfl,
    if_neg (Nat.not_lt.2 bound), if_neg (by simp only [List.length_cons, List.length_append, List.length_nil]; omega)]
  rw [List.cons_append]
  cases frameOf? (len :: (front ++ [last])) with
  | none => simp
  | some c => simp

/-- Held bytes taken again are taken as if arriving now (R154). -/
theorem hunt_eq_feed (bs : List Byte) (fuel : Nat) (enough : bs.length ≤ fuel) :
    hunt fuel bs = Receiver.idle.feed bs := by
  induction size : bs.length using Nat.strong_induction_on generalizing bs fuel with
  | _ size ih =>
    subst size
    replace ih : ∀ (cs : List Byte) (fuel : Nat), cs.length < bs.length → cs.length ≤ fuel →
        hunt fuel cs = Receiver.idle.feed cs := fun cs fuel less enough => ih cs.length less cs fuel enough rfl
    cases bs with
    | nil => cases fuel <;> rfl
    | cons b rest =>
      cases fuel with
      | zero => simp at enough
      | succ fuel =>
        simp only [List.length_cons, Nat.add_le_add_iff_right] at enough
        have less : rest.length < (b :: rest).length := by simp
        rw [Receiver.feed_cons, Receiver.take_hunt rfl]
        unfold hunt
        by_cases sync : b = 0xA5
        case neg =>
          rw [if_pos (show b ≠ Config.commandSync from sync), if_neg (fun h => sync h.2)]
          exact ih rest fuel less enough
        case pos =>
          rw [if_neg (show ¬ b ≠ Config.commandSync from fun h => h sync), if_pos ⟨rfl, sync⟩]
          cases rest with
          | nil => rfl
          | cons len more =>
            dsimp only
            rw [List.nil_append]
            have shorter : more.length < (b :: len :: more).length := by simp only [List.length_cons]; omega
            by_cases long : len.toNat > 72
            · rw [if_pos (show len.toNat > Config.maxPayload from long), Receiver.feed_cons,
                Receiver.take_within (rx := ⟨.length, [], true⟩) (by decide) (len := len) (rest := []) rfl, if_pos long,
                ih more fuel shorter (by simp only [List.length_cons] at enough; omega)]
              rfl
            · rw [if_neg (show ¬ len.toNat > Config.maxPayload from long)]
              by_cases short : (len :: more).length < len.toNat + 5
              · rw [if_pos (show (len :: more).length < frameBytes len from short),
                  Receiver.feed_started (Nat.not_lt.1 long) more short]
              · rw [if_neg (show ¬ (len :: more).length < frameBytes len from short)]
                have cut : len :: more = len :: more.take (len.toNat + 4) ++ more.drop (len.toNat + 4) := by
                  rw [List.cons_append, List.take_append_drop]
                have whole : (len :: more.take (len.toNat + 4)).length = len.toNat + 5 := by
                  simp only [List.length_cons, List.length_take, Nat.not_lt] at short ⊢
                  omega
                have front : (len :: more).take (frameBytes len) = len :: more.take (len.toNat + 4) := rfl
                have back : (len :: more).drop (frameBytes len) = more.drop (len.toNat + 4) := rfl
                rw [front, back]
                conv_rhs => rw [cut, Receiver.feed_append, Receiver.feed_frame (Nat.not_lt.1 long) _ whole]
                cases found : frameOf? (len :: more.take (len.toNat + 4)) with
                | some c =>
                  dsimp only
                  rw [ih (more.drop _) fuel (by simp only [List.length_drop, List.length_cons]; omega)
                    (by simp only [List.length_drop, List.length_cons] at enough ⊢; omega)]
                  rfl
                | none =>
                  dsimp only
                  have again := ih (len :: more.take (len.toNat + 4)) ((len :: more.take (len.toNat + 4)).length + 1)
                    (by simp only [List.length_cons, List.length_take]; omega) (Nat.le_succ _)
                  rw [again, ih (len :: more) fuel less enough]
                  conv_lhs => rw [cut, Receiver.feed_append]
                  rfl

/-! ### Frames read back (R151, R153) -/

theorem byte_toNat {n : Nat} (h : n < 256) : (byte n).toNat = n := by
  simp only [byte, BitVec.toNat_ofNat]
  omega

/-- The bytes held of a whole frame of a command give the command. -/
theorem frameOf?_held {c : Command} (bound : c.payload.length ≤ 72) : frameOf? c.held = some c := by
  have len : (byte c.payload.length).toNat = c.payload.length := byte_toNat (by omega)
  have shape : c.held = byte c.payload.length :: c.tag :: c.code :: (c.payload ++ bytes16 (crc16 c.body).toNat) := rfl
  have payload : (c.payload ++ bytes16 (crc16 c.body).toNat).take (byte c.payload.length).toNat = c.payload := by
    rw [len, List.take_left]
  rw [shape]
  unfold frameOf?
  dsimp only
  rw [payload, ← shape]
  exact if_pos rfl

theorem Command.held_length (c : Command) : c.held.length = c.payload.length + 5 := by
  simp only [held, body, bytes16, List.length_append, List.length_cons, List.length_nil]

/-- The receiver reads a frame back, from HUNT to HUNT. -/
theorem Receiver.feed_held {c : Command} (bound : c.payload.length ≤ 72) :
    Receiver.idle.feed (0xA5 :: c.held) = (.idle, [.frame c]) := by
  have len : (byte c.payload.length).toNat = c.payload.length := byte_toNat (by omega)
  have whole := c.held_length
  have found := frameOf?_held bound
  have started : Receiver.idle.take 0xA5 false = (⟨.length, [], true⟩, []) := rfl
  have shape : c.held = byte c.payload.length :: (c.tag :: c.code :: (c.payload ++ bytes16 (crc16 c.body).toNat)) := rfl
  rw [shape] at whole found ⊢
  rw [feed_cons, started, feed_frame (by omega) _ (by rw [len]; exact whole), found]
  rfl

theorem Receiver.feed_passedOver {bs : List Byte} (other : ∀ b ∈ bs, b ≠ 0xA5) :
    Receiver.idle.feed bs = (.idle, []) := by
  induction bs with
  | nil => rfl
  | cons b bs ih =>
    rw [feed_cons, take_hunt rfl, if_neg fun h => other b (by simp) h.2, ih fun k hk => other k (by simp [hk])]
    rfl

/-- Settles O58, frame by frame: the bytes before a SYNC are passed over, and a frame's own bytes read it back. -/
theorem receiverReadsEveryFrameBack : Obligations.ReceiverReadsEveryFrameBack := by
  intro frames
  induction frames with
  | nil => exact fun _ => rfl
  | cons f frames ih =>
    intro ok
    obtain ⟨other, bound⟩ := ok f (by simp)
    have rest := ih fun g hg => ok g (by simp [hg])
    rw [List.flatMap_cons, Receiver.feed_append, Receiver.feed_append, Receiver.feed_passedOver other]
    have read : Receiver.idle.feed (0xA5 :: f.2.held) = _ := Receiver.feed_held bound
    simp only [Command.held, Command.body] at read
    rw [read, rest]
    rfl

/-! ### What the lines bring about -/

theorem State.receiving_of {s : State} {p : Port} (awake : s.resetAsserted = false)
    (mark : (s.ports.get p).inBreak = false) : s.receiving p = true := by
  simp [receiving, awake, mark]

/-- A frame is that of a command only if its bytes are. -/
theorem frameOf?_eq_none {held : List Byte} (foreign : ∀ c : Command, held ≠ c.held) : frameOf? held = none := by
  unfold frameOf?
  split
  · exact if_neg (foreign _)
  · rfl

theorem Receiver.take_again {rx : Receiver} (within : rx.phase ≠ .hunt) {b len : Byte} {rest : List Byte}
    (held : rx.held ++ [b] = len :: rest) (bound : len.toNat ≤ 72) (whole : rest.length = len.toNat + 4)
    (foreign : ∀ c : Command, len :: rest ≠ c.held) :
    rx.take b false = ((Receiver.idle.feed (len :: rest)).1, .discard :: (Receiver.idle.feed (len :: rest)).2) := by
  rw [take_within within held, if_neg (Nat.not_lt.2 bound),
    if_neg (by simp only [List.length_cons]; omega), frameOf?_eq_none foreign, hunt_eq_feed _ _ (Nat.le_succ _)]

theorem phaseOf_body {len : Byte} {rest : List Byte} (early : rest.length < len.toNat + 2) :
    phaseOf (len :: rest) = .body := if_pos early

theorem phaseOf_check {len : Byte} {rest : List Byte} (late : len.toNat + 2 ≤ rest.length) :
    phaseOf (len :: rest) = .check := if_neg (Nat.not_lt.2 late)

/-- A byte within a frame that is not its last. -/
theorem Receiver.take_more {rx : Receiver} (within : rx.phase ≠ .hunt) {b len : Byte} {rest : List Byte}
    (held : rx.held ++ [b] = len :: rest) (bound : len.toNat ≤ 72) (more : rest.length < len.toNat + 4) :
    rx.take b false = (⟨phaseOf (len :: rest), len :: rest, true⟩, []) := by
  rw [take_within within held, if_neg (Nat.not_lt.2 bound), if_pos (by simp only [List.length_cons]; omega)]

/-- The cases of one byte taken, as R153 and R154 put them. -/
theorem Receiver.take_cases (rx : Receiver) (b : Byte) (bad : Bool) :
    (rx.phase = .hunt → bad = false → b = 0xA5 → rx.take b bad = (⟨.length, [], true⟩, [])) ∧
    (rx.phase = .hunt → bad = true ∨ b ≠ 0xA5 → rx.take b bad = (rx, [])) ∧
    (rx.phase ≠ .hunt → bad = true → rx.take b bad = (.idle, [.discard])) ∧
    (rx.phase = .length → rx.held = [] → bad = false →
      (b.toNat > 72 → rx.take b bad = (.idle, [.discard])) ∧
      (b.toNat ≤ 72 → rx.take b bad = (⟨.body, [b], true⟩, []))) ∧
    (∀ len rest, rx.phase ≠ .hunt → bad = false → rx.held ++ [b] = len :: rest → len.toNat ≤ 72 →
      (rest.length < len.toNat + 2 → rx.take b bad = (⟨.body, len :: rest, true⟩, [])) ∧
      (len.toNat + 2 ≤ rest.length → rest.length < len.toNat + 4 → rx.take b bad = (⟨.check, len :: rest, true⟩, [])) ∧
      (rest.length = len.toNat + 4 → (∀ c : Command, len :: rest ≠ c.held) →
        ∃ again, rx.take b bad = (again.1, .discard :: again.2) ∧ again = Receiver.idle.feed (len :: rest))) := by
  refine ⟨fun hunting good sync => ?_, fun hunting other => ?_, fun within spoilt => ?_, fun phase empty good => ?_,
    fun len rest within good held bound => ?_⟩
  · rw [take_hunt hunting, if_pos ⟨good, sync⟩]
  · rw [take_hunt hunting, if_neg]
    rintro ⟨good, sync⟩
    rcases other with spoilt | other
    · cases good.symm.trans spoilt
    · exact other sync
  · rw [spoilt]
    exact take_bad within b
  · subst good
    have within : rx.phase ≠ .hunt := by rw [phase]; decide
    have held : rx.held ++ [b] = b :: [] := by rw [empty]; rfl
    refine ⟨fun long => ?_, fun bound => ?_⟩
    · rw [take_within within held, if_pos long]
    · rw [take_more within held bound (by simp), phaseOf_body (by simp)]
  · subst good
    refine ⟨fun early => ?_, fun late more => ?_,
      fun whole foreign => ⟨_, take_again within held bound whole foreign, rfl⟩⟩
    · rw [take_more within held bound (by omega), phaseOf_body early]
    · rw [take_more within held bound more, phaseOf_check late]

/-- Settles O59: the events by their conditions, the receiver by `Receiver.take_cases`. -/
theorem bytesAndDiscards : Obligations.BytesAndDiscards := by
  refine ⟨fun s p b bad awake mark => ⟨?_, fun discards => ?_⟩, Receiver.take_cases, fun s p awake running => ?_⟩
  · exact congrArg Host.Outcome.next (if_pos (State.receiving_of awake mark))
  · refine congrArg Host.Outcome.next (if_pos ?_)
    rw [State.receiving_of awake mark, Bool.true_and]
    exact decide_eq_true discards
  · refine congrArg Host.Outcome.next (if_pos ?_)
    rw [awake, running]
    rfl

/-- Settles O33: the receiver goes back to HUNT, the link is heard, and then the command is offered to its queue. -/
theorem validFrameIsQueuedAndKeepsTheLink : Obligations.ValidFrameIsQueuedAndKeepsTheLink := by
  intro s p tag code payload awake mark bound within l q heard u
  have arrives : exec (.validFrameArrival p tag code payload) s = .next (u.offer p ⟨tag, code, payload⟩) := by
    refine congrArg Host.Outcome.next (if_pos ?_)
    rw [State.receiving_of awake mark, within, Bool.true_and, Bool.and_true]
    exact decide_eq_true bound
  have port : u.ports.get p = { q with rx := .idle } := by
    have ports : u.ports = s.ports.set p { q with rx := .idle } := by
      show (if l.state = .silent then heard.raise .link else heard).ports = _
      split <;> rfl
    rw [ports, PerPort.get_set_same]
  rw [arrives]
  unfold State.offer State.addReply
  rw [port]
  rfl

/-- Settles O60: each event by its condition and the port it writes. -/
theorem portResetAndTransmitter : Obligations.PortResetAndTransmitter := by
  intro s p awake q
  refine ⟨fun mark => ⟨fun hunting => ?_, fun within => ?_⟩, fun broken b tag code bad payload => ?_, ?_,
    fun r rest idle replies => ?_, ?_⟩
  · refine congrArg Host.Outcome.next ((if_pos (State.receiving_of awake mark)).trans (if_pos hunting))
  · refine congrArg Host.Outcome.next ((if_pos (State.receiving_of awake mark)).trans (if_neg within))
  · have deaf : ¬ s.receiving p = true := by simp [State.receiving, show (s.ports.get p).inBreak = true from broken]
    have deafAnd {x : Bool} : ¬ (s.receiving p && x) = true := by
      rw [Bool.and_eq_true]
      exact fun h => deaf h.1
    refine ⟨congrArg Host.Outcome.next (if_neg deaf), congrArg Host.Outcome.next (if_neg deafAnd),
      congrArg Host.Outcome.next (if_neg ?_), congrArg Host.Outcome.next (if_neg deaf)⟩
    rw [Bool.and_assoc]
    exact deafAnd
  · exact congrArg Host.Outcome.next (if_neg (by rw [awake]; decide))
  · refine congrArg Host.Outcome.next ((if_neg (by rw [awake]; decide)).trans ?_)
    rw [show (s.ports.get p).sending = none from idle, show (s.ports.get p).replies = r :: rest from replies]
    rfl
  · exact congrArg Host.Outcome.next (if_neg (by rw [awake]; decide))

/-! ### The reset pin (R163) -/

/-- While reset is asserted no taking is made. -/
theorem State.takes_asleep {s : State} (asleep : s.resetAsserted = true) (p : Port) (cmd : Command) :
    s.takes p cmd = false := by
  simp [takes, asleep]

theorem State.receiving_asleep {s : State} (asleep : s.resetAsserted = true) (p : Port) : s.receiving p = false := by
  simp [receiving, asleep]

/-- While reset is asserted nothing happens but a reset. -/
theorem exec_asleep {s : State} (asleep : s.resetAsserted = true) {c : Instr} (notAssertion : c ≠ .resetPinAsserted)
    (notRelease : ∀ rate1 rate0 lampTest, c ≠ .powerUpReset rate1 rate0 lampTest) : exec c s = .next s := by
  have deaf (p : Port) : ¬ s.receiving p = true := by rw [State.receiving_asleep asleep]; decide
  have deafAnd (p : Port) {x : Bool} : ¬ (s.receiving p && x) = true := by
    rw [State.receiving_asleep asleep]; simp
  have taking {c : Instr} {p : Port} {cmd : Command} (h : c.command? = some (p, cmd)) : exec c s = .next s :=
    exec_not_taken h (State.takes_asleep asleep p cmd)
  cases c with
  | powerUpReset rate1 rate0 lampTest => exact absurd rfl (notRelease rate1 rate0 lampTest)
  | resetPinAsserted => exact absurd rfl notAssertion
  | validFrameArrival p => exact congrArg Host.Outcome.next (if_neg (by rw [Bool.and_assoc]; exact deafAnd p))
  | frameDiscard p => exact congrArg Host.Outcome.next (if_neg (deafAnd p))
  | byteTaken p => exact congrArg Host.Outcome.next (if_neg (deaf p))
  | portReset p => exact congrArg Host.Outcome.next (if_neg (deaf p))
  | gapTimerExpiry p => exact congrArg Host.Outcome.next (if_neg (by simp [asleep]))
  | transmitReply p | replySent p | lineReturnedToMark p => exact congrArg Host.Outcome.next (if_pos asleep)
  | silenceTimerExpiry p => exact congrArg Host.Outcome.next (if_pos (.inl asleep))
  | holdLimitExpiry | lampTestInputRelease | lampTestLimitExpiry =>
    exact congrArg Host.Outcome.next (if_pos (.inl asleep))
  | lampTestInputAssertion => exact congrArg Host.Outcome.next (if_pos (.inl asleep))
  | frameStart upsets => exact congrArg Host.Outcome.next (if_neg fun h => by cases asleep.symm.trans h.1)
  | frameEnd => exact congrArg Host.Outcome.next (if_neg fun h => by cases asleep.symm.trans h.1)
  | subFrame =>
    refine congrArg Host.Outcome.next ?_
    rw [asleep]
  | stringFrameEnd n answering sensed upsets =>
    refine congrArg Host.Outcome.next ?_
    rw [asleep]
  | unknownCommand p tag code payload =>
    by_cases known : code ∈ knownCodes
    · exact congrArg Host.Outcome.next (if_pos known)
    · exact taking (if_neg known)
  | writeAspects | setAttributes | forceLamp | unforce | readLamps | defineZone | disableZone | claimZone | releaseZone
  | markCurrent | readZone | present | setTimeout | setAllowance | readLink | postHandover | takeHandover | raiseAlarm
  | clearAlarm | acknowledge | silenceHorn | startScan | stopScan | setLevels | setTiming | holdBoard | releaseHold
  | lampTestStart | lampTestStop | setString | setSupervision | readStrings | takeFailures | readFault | releaseFault
  | setFaultMask | setWindow | readWatch | releaseWatch | setArbitration | setRouting | takeNotices | setCounter
  | readCounters => exact taking rfl

/-- Settles O3: the pins are views of the state after the assertion, the power-up values those of `State.reset`, and no
event but a reset is admitted while the pin is asserted. -/
theorem resetPinAndPowerUp : Obligations.ResetPinAndPowerUp := by
  refine ⟨fun s => ⟨_, rfl, rfl, State.lampOn_off rfl, rfl, fun p => ?_⟩, fun rate1 rate0 lampTest s => ?_,
    fun rate1 rate0 lampTest s => ⟨_, rfl, rfl, rfl, fun p => ?_, rfl, rfl, State.reset_zones, rfl, rfl, rfl, rfl, rfl,
      fun g => Vector.getElem_replicate _, rfl, rfl, rfl, rfl, rfl, rfl, rfl, rfl, rfl,
      fun i => ⟨Vector.getElem_replicate _, State.lampOn_off rfl i⟩, State.reset_strings, rfl, rfl, rfl, rfl, rfl, rfl,
      fun w => Vector.getElem_replicate _, rfl, fun k => Vector.getElem_replicate _,
      fun j => Vector.getElem_replicate _⟩, fun c s asleep => exec_asleep asleep⟩
  · cases p <;> exact ⟨rfl, rfl, rfl⟩
  · cases rate1 <;> cases rate0 <;> rfl
  · refine ⟨PerPort.get_all _ p, PerPort.get_all _ p, ?_, fun j => ?_⟩
    · cases p <;> rfl
    · rw [show (State.reset.notices.get p) = Vector.replicate 10 false from PerPort.get_all _ p]
      exact Vector.getElem_replicate _

end Sys2Proof.Machine
end

section
/-! SUPPORT. Operands read back (9.2), and the taking of a command that names no lamps. -/

namespace Sys2Proof.Machine

/-! ### Operands -/

@[simp] theorem byte_self (b : Byte) : byte b.toNat = b := by simp [byte]

theorem byte_add_256 (b : Byte) (n : Nat) : byte (n * 256 + b.toNat) = b := by
  apply BitVec.eq_of_toNat_eq
  have := b.isLt
  simp only [byte, BitVec.toNat_ofNat]
  omega

@[simp] theorem bytes16_number16 (hi lo : Byte) : bytes16 (number16 hi lo) = [hi, lo] := by
  have low := lo.isLt
  have high : (hi.toNat * 256 + lo.toNat) / 256 = hi.toNat := by omega
  rw [bytes16, number16, byte_add_256, high, byte_self]

theorem number16_bytes16 {n : Nat} (h : n < 65536) : number16 (byte (n / 256)) (byte n) = n := by
  simp only [number16, byte, BitVec.toNat_ofNat]
  omega

theorem zoneNoOf?_some {b : Byte} {z : ZoneNo} (h : z.val = b.toNat) : zoneNoOf? b = some z := by
  have hz := z.isLt
  rw [zoneNoOf?, dif_pos (by omega)]
  exact congrArg some (Fin.ext h.symm)

theorem zoneNoOf?_none {b : Byte} (h : b.toNat > 63) : zoneNoOf? b = none := dif_neg (by omega)

theorem zone_byte (z : ZoneNo) : z.val = (byte z.val).toNat := (byte_toNat (by omega)).symm

theorem lampOf?_some {n : Nat} {i : Lamp} (h : n = i.val) : lampOf? n = some i := by
  have hi := i.isLt
  rw [lampOf?, dif_pos (by omega)]
  exact congrArg some (Fin.ext h)

theorem lampOf?_none {n : Nat} (h : n > 4095) : lampOf? n = none := dif_neg (by omega)

/-- The lamp number in two bytes. -/
theorem lampOf?_bytes (i : Lamp) : lampOf? (number16 (byte (i.val / 256)) (byte i.val)) = some i :=
  lampOf?_some (number16_bytes16 (by omega))

theorem telemetryOnly_of_ne {p : Port} (h : p ≠ .d) : telemetryOnly p = none := if_neg h

theorem toList_flatMap {α β : Type} {n : Nat} (v : Vector α n) (f : α → List β) :
    v.toList.flatMap f = (List.finRange n).flatMap fun i => f v[i] := by
  have all : v.toList = (List.finRange n).map fun i => v[i] := by
    refine List.ext_getElem (by simp) fun k _ _ => ?_
    simp
  rw [all, List.flatMap_map]

/-! ### Takings of commands that name no lamps -/

/-- A taking read and judged. -/
theorem exec_judged {α : Type} {c : Instr} {s t : State} {p : Port} {cmd : Command} {parse : List Byte → Option α}
    {zone : State → α → Option ZoneNo} {judge : State → α → State × Answer} {a : α} {z : Option ZoneNo} {ans : Answer}
    (runs : exec c s = .next (s.executes p cmd [] parse zone judge)) (taken : s.takes p cmd = true)
    (read : parse cmd.payload = some a) (zoned : zone (s.takeHead p) a = z) (judged : judge (s.takeHead p) a = (t, ans)) :
    exec c s = .next (t.conclude p cmd z ans) := by
  rw [runs, State.executes_judged [] zone judge taken read, State.land_nil, judged, zoned]

/-- A taking judged a refusal. -/
theorem refusedWith_judged {α : Type} {c : Instr} {s : State} {p : Port} {cmd : Command} {parse : List Byte → Option α}
    {zone : State → α → Option ZoneNo} {judge : State → α → State × Answer} {a : α} {ans : Answer}
    (runs : exec c s = .next (s.executes p cmd [] parse zone judge)) (taken : s.takes p cmd = true)
    (read : parse cmd.payload = some a) (unread : s.judgedIn p c = s.takeHead p)
    (zoned : zone (s.takeHead p) a = s.attributedZone cmd.code cmd.payload)
    (judged : judge (s.takeHead p) a = (s.takeHead p, ans)) : c.refusedWith s p cmd ans := by
  rw [Instr.refusedWith, unread]
  exact exec_judged runs taken read zoned judged

/-! ### Zones (2.4) -/

theorem State.onZone_range {role : Option Answer} (ok : role = none) {b : Byte} (h : b.toNat > 63) (s : State)
    (rest : ZoneNo → State × Answer) : s.onZone role b rest = (s, ⟨.range, [b]⟩) := by
  rw [onZone, ok, unless_none, zoneNoOf?_none h]

theorem State.onZone_some {role : Option Answer} (ok : role = none) {b : Byte} {z : ZoneNo} (h : z.val = b.toNat)
    (s : State) (rest : ZoneNo → State × Answer) : s.onZone role b rest = rest z := by
  rw [onZone, ok, unless_none, zoneNoOf?_some h]

theorem State.zoneDone_eq (s : State) (z : ZoneNo) (r : ZoneRecord) :
    s.zoneDone z r = (s.setZone z r, .done [byte z.val, portOrNone r.owner]) := by
  have written : (s.setZone z r).zones[z] = r := by rw [setZone_zones, Vector_set_fin, if_pos rfl]
  rw [zoneDone, zoneReply, written]

theorem State.zoneRefusal_eq {s : State} {z : ZoneNo} {b : Byte} (h : z.val = b.toNat) (status : Status) :
    s.zoneRefusal status z = ⟨status, [b, portOrNone s.zones[z].owner]⟩ := by
  have named : byte z.val = b := by rw [h, byte_self]
  rw [zoneRefusal, named]

theorem ZoneRecord.ownedByOther_iff (r : ZoneRecord) (p : Port) :
    r.ownedByOther p = true ↔ ∃ q, r.owner = some q ∧ q ≠ p := by
  unfold ownedByOther
  cases r.owner <;> simp

theorem ZoneRecord.not_ownedByOther {r : ZoneRecord} {p : Port} (h : ∀ q, r.owner = some q → q = p) :
    ¬ r.ownedByOther p = true := by
  rw [ownedByOther_iff]
  rintro ⟨q, owned, other⟩
  exact other (h q owned)

/-- The refusal of a zone command by its owner. -/
theorem State.zoneRefusal_owned {s : State} {z : ZoneNo} {b : Byte} (h : z.val = b.toNat) {q : Port}
    (owned : s.zones[z].owner = some q) (status : Status) : s.zoneRefusal status z = ⟨status, [b, portCode q]⟩ := by
  rw [zoneRefusal_eq h, owned]
  rfl

/-- Settles O27: the zone found, its owner asked, and the record replaced. -/
theorem disableAndClaimZone : Obligations.DisableAndClaimZone := by
  intro s p tag b telemetry
  have role := telemetryOnly_of_ne telemetry
  refine ⟨fun taken => ⟨fun range => ?_, fun z hz => ⟨fun q owned other => ?_, fun own => ?_⟩⟩,
    fun taken => ⟨fun range => ?_, fun z hz => ⟨fun off => ?_, fun on silent => ?_, fun on live =>
      ⟨fun q owned other => ?_, fun own => ?_⟩⟩⟩⟩
  · exact refusedWith_judged rfl taken rfl rfl rfl (State.onZone_range role range _ _)
  · refine refusedWith_judged rfl taken rfl rfl rfl ((State.onZone_some role hz _ _).trans ((if_pos ?_).trans ?_))
    · exact (ZoneRecord.ownedByOther_iff _ _).2 ⟨q, owned, other⟩
    · rw [State.zoneRefusal_owned (s := s.takeHead p) hz owned]
  · refine exec_judged rfl taken rfl (zoneNoOf?_some hz) ((State.onZone_some role hz _ _).trans ((if_neg ?_).trans ?_))
    · exact ZoneRecord.not_ownedByOther own
    · rw [State.zoneDone_eq, hz, byte_self]
      rfl
  · exact refusedWith_judged rfl taken rfl rfl rfl (State.onZone_range role range _ _)
  · refine refusedWith_judged rfl taken rfl rfl rfl ((State.onZone_some role hz _ _).trans (if_pos ?_))
    rw [State.takeHead_zones, off]
    rfl
  · refine refusedWith_judged rfl taken rfl rfl rfl ((State.onZone_some role hz _ _).trans ((if_neg ?_).trans (if_pos silent)))
    rw [State.takeHead_zones, on]
    decide
  · refine refusedWith_judged rfl taken rfl rfl rfl ((State.onZone_some role hz _ _).trans ((if_neg ?_).trans
      ((if_neg ?_).trans ((if_pos ?_).trans ?_))))
    · rw [State.takeHead_zones, on]; decide
    · rw [State.takeHead_links, live]; decide
    · exact (ZoneRecord.ownedByOther_iff _ _).2 ⟨q, owned, other⟩
    · rw [State.zoneRefusal_owned (s := s.takeHead p) hz owned]
  · refine exec_judged rfl taken rfl (zoneNoOf?_some hz) ((State.onZone_some role hz _ _).trans ((if_neg ?_).trans
      ((if_neg ?_).trans ((if_neg ?_).trans ?_))))
    · rw [State.takeHead_zones, on]; decide
    · rw [State.takeHead_links, live]; decide
    · exact ZoneRecord.not_ownedByOther own
    · rw [State.zoneDone_eq, hz, byte_self]
      rfl

/-- Settles O28, as O27. -/
theorem releaseZoneAndMarkCurrent : Obligations.ReleaseZoneAndMarkCurrent := by
  intro s p tag b telemetry
  have role := telemetryOnly_of_ne telemetry
  refine ⟨fun taken => ⟨fun range => ?_, fun z hz => ⟨fun q owned other => ?_, fun own => ?_⟩⟩,
    fun taken => ⟨fun range => ?_, fun z hz => ⟨fun other => ?_, fun own => ?_⟩⟩⟩
  · exact refusedWith_judged rfl taken rfl rfl rfl (State.onZone_range role range _ _)
  · refine refusedWith_judged rfl taken rfl rfl rfl ((State.onZone_some role hz _ _).trans ((if_pos ?_).trans ?_))
    · exact (ZoneRecord.ownedByOther_iff _ _).2 ⟨q, owned, other⟩
    · rw [State.zoneRefusal_owned (s := s.takeHead p) hz owned]
  · refine exec_judged rfl taken rfl (zoneNoOf?_some hz) ((State.onZone_some role hz _ _).trans ((if_neg ?_).trans ?_))
    · exact ZoneRecord.not_ownedByOther own
    · rw [State.zoneDone_eq, hz, byte_self]
      rfl
  · exact refusedWith_judged rfl taken rfl rfl rfl (State.onZone_range role range _ _)
  · refine refusedWith_judged rfl taken rfl rfl rfl ((State.onZone_some role hz _ _).trans ((if_neg other).trans ?_))
    rw [State.zoneRefusal_eq hz]
    rfl
  · refine exec_judged rfl taken rfl (zoneNoOf?_some hz) ((State.onZone_some role hz _ _).trans ((if_pos own).trans ?_))
    rw [State.zoneDone_eq, hz, byte_self]
    show (_, Answer.done [b, portOrNone s.zones[z].owner]) = _
    rw [own]
    rfl

theorem lampBytes_eq (m : Option Lamp) : lampBytes m = m.elim [0xFF, 0xFF] fun i => bytes16 i.val := by
  cases m <;> rfl

/-- Settles O29: each of these commands is judged to a report. -/
theorem readingCommandsReportAndChangeNothing : Obligations.ReadingCommandsReportAndChangeNothing := by
  intro s p tag link
  refine ⟨fun taken => ?_, fun taken => ?_, fun z taken => ?_, fun b range taken => ?_, fun taken => ?_,
    fun taken => ?_⟩
  · exact exec_judged rfl taken rfl rfl rfl
  · exact exec_judged rfl taken rfl rfl rfl
  · refine exec_judged rfl taken rfl (zoneNoOf?_some (zone_byte z)) ((State.onZone_some rfl (zone_byte z) _ _).trans ?_)
    rw [ZoneRecord.report, lampBytes_eq]
    rfl
  · exact refusedWith_judged rfl taken rfl rfl rfl (State.onZone_range rfl range _ _)
  · refine exec_judged rfl taken rfl rfl ?_
    rw [toList_flatMap]
    rfl
  · refine exec_judged rfl taken rfl rfl ?_
    rw [toList_flatMap]
    rfl

/-! ### Links and the handover slot (chapter 3) -/

theorem clamp_zero (high n : Nat) : clamp 0 high n = min high n := Nat.zero_max _

/-- Settles O30. -/
theorem timeoutAndAllowanceAreClamped : Obligations.TimeoutAndAllowanceAreClamped := by
  intro s p tag hi lo b
  refine ⟨fun taken => exec_judged rfl taken rfl rfl rfl, fun taken => exec_judged rfl taken rfl rfl ?_⟩
  dsimp only
  rw [clamp_zero]
  rfl

theorem append_toNat (hi lo : Byte) : (hi ++ lo : Word16).toNat = number16 hi lo := by
  have low := lo.isLt
  rw [BitVec.toNat_append, number16, Nat.shiftLeft_eq, ← Nat.shiftLeft_eq, ← Nat.shiftLeft_add_eq_or_of_lt low,
    Nat.shiftLeft_eq]

/-- Settles O31: a post replaces the slot by `State.posted`, a take by the EMPTY one. -/
theorem handoverIsPostedAndTaken : Obligations.HandoverIsPostedAndTaken := by
  intro s p tag hi lo telemetry
  have role := telemetryOnly_of_ne telemetry
  refine ⟨fun taken => ⟨hi ++ lo, append_toNat hi lo, exec_judged rfl taken rfl rfl ?_⟩,
    fun taken => exec_judged rfl taken rfl rfl ?_⟩
  · rw [judgePostHandover, role, State.unless_none]
    have slot : (s.takeHead p).posted p (hi ++ lo) =
        ⟨if (s.links.get p).state = .live then .posted else .lapsed, hi ++ lo, some p⟩ := by
      rw [State.posted, State.takeHead_links]
      cases (s.links.get p).state <;> rfl
    dsimp only
    rw [slot, Handover.report, append_toNat, bytes16_number16]
    rfl
  · rw [judgeTakeHandover, role, State.unless_none]
    rfl

end Sys2Proof.Machine
end

section
/-! SUPPORT. DEFINE ZONE, the horn, the settings, the board hold and lamp test (2.4, 4.5, 5.6 to 5.8). -/

namespace Sys2Proof.Machine

/-! ### The lowest number with a property -/

theorem find?_finRange {n : Nat} (f : Fin n → Bool) (k : Fin n) :
    (List.finRange n).find? f = some k ↔ f k = true ∧ ∀ j, j < k → ¬ f j = true := by
  rw [find?_eq_some_iff_idxOf f (List.mem_finRange k)]
  refine and_congr_right fun _ => ⟨fun least j below found => ?_, fun least j _ found => ?_⟩
  · have := least j (List.mem_finRange j) found
    rw [List.idxOf_finRange, List.idxOf_finRange] at this
    exact absurd this (Nat.not_le.2 below)
  · rw [List.idxOf_finRange, List.idxOf_finRange]
    exact Nat.not_lt.1 fun below => least j below found

theorem find?_finRange_eq_none {n : Nat} (f : Fin n → Bool) :
    (List.finRange n).find? f = none ↔ ∀ j, ¬ f j = true := by
  rw [List.find?_eq_none]
  exact ⟨fun h j => h j (List.mem_finRange j), fun h j _ => h j⟩

/-! ### DEFINE ZONE (R31 to R33) -/

theorem Treatment.ofCode?_code (t : Treatment) : Treatment.ofCode? t.code = some t := by
  cases t <;> rfl

theorem Treatment.ofCode?_none {b : Byte} (h : b.toNat > 2) : Treatment.ofCode? b = none := by
  have other (k : Byte) (small : k.toNat ≤ 2) : b ≠ k := fun same => by rw [same] at h; omega
  rw [ofCode?, if_neg (other _ (by decide)), if_neg (other _ (by decide)), if_neg (other _ (by decide))]

theorem Treatment.ofCode?_of_le {b : Byte} (h : ¬ b.toNat > 2) : ∃ t, Treatment.ofCode? b = some t := by
  unfold ofCode?
  by_cases keep : b = 0x00
  · exact ⟨_, if_pos keep⟩
  · by_cases dim : b = 0x01
    · exact ⟨_, (if_neg keep).trans (if_pos dim)⟩
    · refine ⟨_, (if_neg keep).trans ((if_neg dim).trans (if_pos ?_))⟩
      apply BitVec.eq_of_toNat_eq
      have zero : b.toNat ≠ 0 := fun h => keep (BitVec.eq_of_toNat_eq h)
      have one : b.toNat ≠ 1 := fun h => dim (BitVec.eq_of_toNat_eq h)
      show b.toNat = 2
      omega

theorem summaryOf?_field (m : Option Lamp) : summaryOf? (m.elim absentLamp Fin.val) = some m := by
  cases m with
  | none => rfl
  | some i =>
    have hi := i.isLt
    rw [summaryOf?, Option.elim_some, if_neg (by unfold absentLamp; omega), lampOf?_some rfl]
    rfl

theorem summaryOf?_none {n : Nat} (high : n > 4095) (present : n ≠ 0xFFFF) : summaryOf? n = none := by
  have listed : n ≠ absentLamp := present
  rw [summaryOf?, if_neg listed, lampOf?_none high]
  rfl

theorem summaryOf?_of_ok {n : Nat} (ok : ¬ (n > 4095 ∧ n ≠ 0xFFFF)) : ∃ m, summaryOf? n = some m := by
  unfold summaryOf?
  by_cases absent : n = absentLamp
  · exact ⟨_, if_pos absent⟩
  · have low : n < 4096 := by
      by_contra high
      exact ok ⟨by omega, absent⟩
    exact ⟨_, (if_neg absent).trans (congrArg _ (lampOf?_some (i := ⟨n, low⟩) rfl))⟩

theorem rangeOk_iff (base size : Nat) :
    rangeOk base size = true ↔ size ∈ zoneSizes ∧ base ≤ 4095 ∧ size ∣ base := by
  simp only [rangeOk, Bool.and_eq_true, decide_eq_true_eq, and_assoc, Nat.dvd_iff_mod_eq_zero]

theorem overlap_iff (base₁ size₁ base₂ size₂ : Nat) :
    overlap base₁ size₁ base₂ size₂ = true ↔ base₁ < base₂ + size₂ ∧ base₂ < base₁ + size₁ := by
  simp only [overlap, Bool.and_eq_true, decide_eq_true_eq]

theorem judgeDefineZone_range {p : Port} (telemetry : p ≠ .d) {s : State} {a : ZoneDefinition}
    (bad : zoneNoOf? a.zone = none ∨ Treatment.ofCode? a.treatment = none ∨ summaryOf? a.summary = none ∨
      rangeOk a.base a.size = false) : judgeDefineZone p s a = (s, ⟨.range, [a.zone]⟩) := by
  rw [judgeDefineZone, telemetryOnly_of_ne telemetry, State.unless_none]
  split
  · rename_i zone treatment summary
    rcases bad with h | h | h | h
    · cases h.symm.trans zone
    · cases h.symm.trans treatment
    · cases h.symm.trans summary
    · rw [h]; rfl
  · rfl

theorem judgeDefineZone_inRange {p : Port} (telemetry : p ≠ .d) {s : State} {a : ZoneDefinition} {z : ZoneNo}
    {t : Treatment} {m : Option Lamp} (zone : zoneNoOf? a.zone = some z) (treatment : Treatment.ofCode? a.treatment = some t)
    (summary : summaryOf? a.summary = some m) (range : rangeOk a.base a.size = true) :
    judgeDefineZone p s a =
      if s.zones[z].ownedByOther p then (s, s.zoneRefusal .owned z)
      else match s.overlapping z a.base a.size with
        | some k => (s, ⟨.overlap, [byte k.val]⟩)
        | none => s.zoneDone z (s.defined z a.base a.size t m) := by
  rw [judgeDefineZone, telemetryOnly_of_ne telemetry, State.unless_none, zone, treatment, summary]
  dsimp only
  rw [range]
  rfl

/-- Settles O25: the payload reads back as the definition, every check passes, and the recount is that of the range. -/
theorem defineZoneEnablesAndRecounts : Obligations.DefineZoneEnablesAndRecounts := by
  intro s p tag z base size t m payload taken telemetry sizes bound divides own apart
  have small : size < 65536 := by
    simp only [List.mem_cons, List.not_mem_nil, or_false] at sizes
    omega
  have summary : m.elim absentLamp Fin.val < 65536 := by
    cases m with
    | none => decide
    | some i => exact Nat.lt_trans i.isLt (by decide)
  have read : parseDefineZone payload = some ⟨byte z.val, base, size, t.code, m.elim absentLamp Fin.val⟩ := by
    rw [← number16_bytes16 (show base < 65536 by omega), ← number16_bytes16 small, ← number16_bytes16 summary]
    rfl
  have free : (s.takeHead p).overlapping z base size = none := by
    refine (find?_finRange_eq_none _).2 fun k meets => ?_
    simp only [Bool.and_eq_true, decide_eq_true_eq, overlap_iff, and_assoc] at meets
    exact apart k meets.1 meets.2.1 meets.2.2
  refine exec_judged rfl taken read (zoneNoOf?_some (zone_byte z)) ?_
  rw [judgeDefineZone_inRange telemetry (zoneNoOf?_some (zone_byte z)) (Treatment.ofCode?_code t) (summaryOf?_field m)
    ((rangeOk_iff _ _).2 ⟨sizes, bound, divides⟩)]
  refine (if_neg (ZoneRecord.not_ownedByOther own)).trans ?_
  dsimp only
  rw [free]
  dsimp only
  rw [State.zoneDone_eq, State.defined, State.countUnack_eq, State.countStanding_eq]
  rfl

/-- Settles O26: the three refusals are the branches of the judgement, in its order. -/
theorem defineZoneRefusals : Obligations.DefineZoneRefusals := by
  intro s p tag z b1 b0 s1 s0 t m1 m0 telemetry payload c base size bad overlaps taken
  have read : parseDefineZone payload = some ⟨z, base, size, t, number16 m1 m0⟩ := rfl
  refine ⟨fun wrong => refusedWith_judged rfl taken read rfl rfl (judgeDefineZone_range telemetry ?_),
    fun right n hn => ?_⟩
  · rcases wrong with h | h | h | h | h | h
    · exact .inl (zoneNoOf?_none h)
    · exact .inr (.inr (.inr (Bool.eq_false_iff.2 fun ok => h ((rangeOk_iff _ _).1 ok).1)))
    · exact .inr (.inr (.inr (Bool.eq_false_iff.2 fun ok => Nat.not_le.2 h ((rangeOk_iff _ _).1 ok).2.1)))
    · exact .inr (.inr (.inr (Bool.eq_false_iff.2 fun ok => h ((rangeOk_iff _ _).1 ok).2.2)))
    · exact .inr (.inl (Treatment.ofCode?_none h))
    · exact .inr (.inr (.inl (summaryOf?_none h.1 h.2)))
  · simp only [bad, not_or, not_not] at right
    obtain ⟨-, sizes, bound, divides, treatment, summary⟩ := right
    obtain ⟨u, hu⟩ := Treatment.ofCode?_of_le treatment
    obtain ⟨m, hm⟩ := summaryOf?_of_ok summary
    have judged := judgeDefineZone_inRange telemetry (s := s.takeHead p)
      (a := ⟨z, base, size, t, number16 m1 m0⟩) (zoneNoOf?_some hn) hu hm
      ((rangeOk_iff _ _).2 ⟨sizes, Nat.not_lt.1 bound, divides⟩)
    refine ⟨fun q owned other => ?_, fun own k meets least => ?_⟩
    · refine refusedWith_judged rfl taken read rfl rfl (judged.trans ((if_pos ?_).trans ?_))
      · exact (ZoneRecord.ownedByOther_iff _ _).2 ⟨q, owned, other⟩
      · rw [State.zoneRefusal_owned (s := s.takeHead p) hn owned]
    · have meets_iff : ∀ j : ZoneNo, (decide (j ≠ n) && s.zones[j].enabled &&
          overlap base size s.zones[j].base s.zones[j].size) = true ↔ overlaps j := by
        intro j
        simp only [Bool.and_eq_true, decide_eq_true_eq, overlap_iff, overlaps, and_assoc, ne_eq, Fin.ext_iff, hn]
      have found : (s.takeHead p).overlapping n base size = some k :=
        (find?_finRange _ _).2 ⟨(meets_iff k).2 meets, fun j below h => least j below ((meets_iff j).1 h)⟩
      refine refusedWith_judged rfl taken read rfl rfl (judged.trans ((if_neg ?_).trans ?_))
      · exact ZoneRecord.not_ownedByOther own
      · dsimp only
        rw [found]

/-! ### The horn (R74 to R77) -/

/-- The horn's new state at the end of an application (R74). -/
def State.hornAfter (s : State) (entered : Bool) : Horn :=
  if entered then .sounding else if s.soundNew then s.horn else .quiet

theorem State.setHorn_eq (s : State) (h : Horn) :
    s.setHorn h = if h = s.horn then s else State.raise { s with horn := h } .horn := by
  rw [setHorn]
  simp only [eq_comm]

theorem State.settleHorn_eq (s : State) (entered : Bool) : s.settleHorn entered = s.setHorn (s.hornAfter entered) := by
  unfold settleHorn hornAfter
  cases entered with
  | true => rfl
  | false =>
    cases soundNew : s.soundNew with
    | true => simp [setHorn]
    | false =>
      cases horn : s.horn with
      | sounding => simp
      | quiet => simp [setHorn, horn]

/-- Settles O37. -/
theorem hornIsSettledAndSilenced : Obligations.HornIsSettledAndSilenced := by
  refine ⟨fun s entered => ⟨s.hornAfter entered, ?_, ?_⟩, fun s tag taken => ?_, fun s => ?_⟩
  · rw [← s.soundNew_iff, State.hornAfter]
    cases entered <;> cases s.soundNew <;> simp
  · rw [State.settleHorn_eq, State.setHorn_eq]
  · refine exec_judged rfl taken rfl rfl ?_
    show ((s.takeHead .d).setHorn .quiet, _) = _
    rw [State.setHorn_eq]
    cases horn : s.horn with
    | quiet => simp [horn, Answer.done, Horn.code]
    | sounding => simp [horn, Answer.done, Horn.code]
  · simp [State.hornPin]

end Sys2Proof.Machine
end

section
/-! SUPPORT. The composer's commands and timers (5.2, 5.3, 5.6 to 5.8), and the arbitration mode (9.5). -/

namespace Sys2Proof.Machine

/-! ### Takings with upsets -/

/-- A taking read and judged once its upsets have landed. -/
theorem exec_judged_landed {α : Type} {c : Instr} {s t : State} {p : Port} {cmd : Command} {upsets : List Upset}
    {parse : List Byte → Option α} {zone : State → α → Option ZoneNo} {judge : State → α → State × Answer} {a : α}
    {z : Option ZoneNo} {ans : Answer} (runs : exec c s = .next (s.executes p cmd upsets parse zone judge))
    (taken : s.takes p cmd = true) (read : parse cmd.payload = some a)
    (zoned : zone ((s.land upsets).takeHead p) a = z) (judged : judge ((s.land upsets).takeHead p) a = (t, ans)) :
    exec c s = .next (t.conclude p cmd z ans) := by
  rw [runs, State.executes_judged upsets zone judge taken read, judged, zoned]

theorem State.unless_desk_d (s : State) (x : State × Answer) : s.unless (deskOnly .d) x = x := rfl

theorem State.unless_telemetry_of_ne {p : Port} (h : p ≠ .d) (s : State) (x : State × Answer) :
    s.unless (telemetryOnly p) x = x := by
  rw [telemetryOnly_of_ne h, unless_none]

/-! ### Settings (R91, R92) -/

/-- The eight group levels that eight bytes carry. -/
def groupLevels (g : Vector Byte 8) : Vector Nat 8 :=
  #v[g[0].toNat, g[1].toNat, g[2].toNat, g[3].toNat, g[4].toNat, g[5].toNat, g[6].toNat, g[7].toNat]

theorem toList_eight (g : Vector Byte 8) : g.toList = [g[0], g[1], g[2], g[3], g[4], g[5], g[6], g[7]] := by
  refine List.ext_getElem (by simp) fun k hk _ => ?_
  rw [Vector.length_toList] at hk
  rw [Vector.getElem_toList]
  interval_cases k <;> rfl

theorem groupLevels_getElem (g : Vector Byte 8) (k : Fin 8) : (groupLevels g)[k] = g[k].toNat := by
  fin_cases k <;> rfl

theorem groupLevels_bytes (g : Vector Byte 8) : (groupLevels g).toList.map byte = g.toList := by
  rw [toList_eight g]
  show [byte g[0].toNat, byte g[1].toNat, byte g[2].toNat, byte g[3].toNat, byte g[4].toNat, byte g[5].toNat,
    byte g[6].toNat, byte g[7].toNat] = _
  simp only [byte_self]

theorem parseLevels_eq (b f : Byte) (g : Vector Byte 8) :
    parseLevels (b :: f :: g.toList) = some ⟨b.toNat, clamp 16 255 f.toNat, groupLevels g⟩ := by
  rw [toList_eight g]
  rfl

/-- Settles O39. -/
theorem levelsAndTimingAreSet : Obligations.LevelsAndTimingAreSet := by
  refine ⟨?levels, ?timing⟩
  case levels =>
    intro s tag b f g payload taken
    refine ⟨groupLevels g, groupLevels_getElem g, exec_judged rfl taken (parseLevels_eq b f g) rfl ?_⟩
    have floor : clamp 16 255 f.toNat = max 16 f.toNat := by
      have := f.isLt
      rw [clamp, Nat.min_eq_right (by omega)]
    rw [judgeSetLevels, State.unless_desk_d, Levels.report, floor, groupLevels_bytes, byte_self]
  case timing =>
    intro s p tag f sl fa h l telemetry payload t hold test taken
    refine exec_judged rfl taken rfl rfl ((State.unless_telemetry_of_ne telemetry _ _).trans ?_)
    dsimp only
    split
    · rename_i dark
      rw [if_pos (show s.scan = .dark from dark)]
      rfl
    · rename_i run
      rw [if_neg (show ¬ s.scan = .dark from fun dark => by cases dark.symm.trans run)]
      rfl

/-! ### The board hold (R93 to R96) -/

/-- Settles O40. -/
theorem holdIsTakenReleasedAndExpires : Obligations.HoldIsTakenReleasedAndExpires := by
  intro s p tag
  refine ⟨fun taken => ⟨fun dark => ?_, fun run silent => ?_, fun run live => ⟨fun free => ?_,
    fun q start limit held => ⟨fun own => ?_, fun other => ?_⟩⟩⟩,
    fun taken => ⟨fun free => ?_, fun q start limit held => ⟨fun own => ?_, fun other desk => ?_, fun other away => ?_⟩⟩,
    fun awake held => ?_⟩
  · exact refusedWith_judged rfl taken rfl rfl rfl (if_pos dark)
  · refine refusedWith_judged rfl taken rfl rfl rfl ((if_neg ?_).trans (if_pos silent))
    rw [State.takeHead_scan, run]; decide
  · refine exec_judged rfl taken rfl rfl ((if_neg ?_).trans ((if_neg ?_).trans ?_))
    · rw [State.takeHead_scan, run]; decide
    · rw [State.takeHead_links, live]; decide
    · rw [State.takeHead_hold, free]; rfl
  · refine exec_judged rfl taken rfl rfl ((if_neg ?_).trans ((if_neg ?_).trans ?_))
    · rw [State.takeHead_scan, run]; decide
    · rw [State.takeHead_links, live]; decide
    · rw [State.takeHead_hold, held]
      dsimp only
      rw [if_pos own, own]; rfl
  · refine refusedWith_judged rfl taken rfl rfl rfl ((if_neg ?_).trans ((if_neg ?_).trans ?_))
    · rw [State.takeHead_scan, run]; decide
    · rw [State.takeHead_links, live]; decide
    · rw [State.takeHead_hold, held]
      dsimp only
      rw [if_neg other]; rfl
  · refine exec_judged rfl taken rfl rfl ?_
    rw [judgeReleaseHold, State.takeHead_hold, free]; rfl
  · refine exec_judged rfl taken rfl rfl ?_
    rw [judgeReleaseHold, State.takeHead_hold, held]
    exact if_pos own
  · refine exec_judged rfl taken rfl rfl ?_
    rw [judgeReleaseHold, State.takeHead_hold, held]
    exact (if_neg other).trans (if_pos desk)
  · refine refusedWith_judged rfl taken rfl rfl rfl ?_
    rw [judgeReleaseHold, State.takeHead_hold, held]
    exact (if_neg other).trans (if_neg away)
  · refine congrArg Host.Outcome.next (if_neg ?_)
    rintro (asleep | free)
    · cases awake.symm.trans asleep
    · exact held free

/-! ### Lamp test (R98 to R101) -/

theorem Session.source_eq_pin (session : Session) : session.source = some .pin ↔ ∃ limit, session = .on .pin limit := by
  cases session with
  | off => simp [source]
  | on source limit => simp [Session.source]

/-- Settles O41. -/
theorem lampTestSessionsStartAndEnd : Obligations.LampTestSessionsStartAndEnd := by
  intro s tag
  have lit (run : s.scan = .running) : (if (s.takeHead .d).scan = .dark then some ⟨.notRunning, []⟩ else none) =
      (none : Option Answer) := by
    rw [State.takeHead_scan, run]; rfl
  refine ⟨fun taken => ⟨fun dark => ?_, fun run off => ?_, fun run source limit on => ?_⟩,
    fun taken => ⟨fun off => ?_, fun on => ?_⟩,
    fun awake low => ⟨fun run off => ?_, fun idle => ?_⟩, fun awake high => ⟨fun limit on => ?_, fun other => ?_⟩,
    fun awake on => ?_⟩
  · refine refusedWith_judged rfl taken rfl rfl rfl ?_
    rw [judgeLampTestStart, State.takeHead_scan, dark]; rfl
  · refine exec_judged rfl taken rfl rfl ?_
    rw [judgeLampTestStart, lit run, State.takeHead_session, off]; rfl
  · refine exec_judged rfl taken rfl rfl ?_
    rw [judgeLampTestStart, lit run, State.takeHead_session, on]
    show (s.takeHead .d, Answer.done s.session.report) = _
    rw [on]; rfl
  · refine exec_judged rfl taken rfl rfl ?_
    exact congrArg (·, _) (if_pos off)
  · refine exec_judged rfl taken rfl rfl ?_
    exact congrArg (·, _) (if_neg on)
  · refine congrArg Host.Outcome.next ((if_neg ?_).trans (if_pos ⟨run, off⟩))
    simp [awake, low]
  · refine congrArg Host.Outcome.next ((if_neg ?_).trans (if_neg ?_))
    · simp [awake, low]
    · rintro ⟨run, off⟩
      rcases idle with dark | on
      · cases run.symm.trans dark
      · exact on off
  · refine congrArg Host.Outcome.next ((if_neg ?_).trans (if_pos ?_))
    · simp [awake, high]
    · exact (Session.source_eq_pin _).2 ⟨limit, on⟩
  · refine congrArg Host.Outcome.next ((if_neg ?_).trans (if_neg ?_))
    · simp [awake, high]
    · rw [Session.source_eq_pin]
      rintro ⟨limit, on⟩
      exact other limit on
  · refine congrArg Host.Outcome.next (if_neg ?_)
    rintro (asleep | off)
    · cases awake.symm.trans asleep
    · exact on off

/-! ### Scan states and the phase advance (R82 to R85) -/

/-- A frame start changes what its reads, its picture and its pending module counts do, and takes the frame in hand. -/
theorem State.beginFrame_frame (s : State) : s.beginFrame = { s with
    lamps := s.beginFrame.lamps, zones := s.beginFrame.zones, horn := s.beginFrame.horn, fault := s.beginFrame.fault,
    notices := s.beginFrame.notices, snapshot := s.beginFrame.snapshot, drive := s.beginFrame.drive,
    failures := s.beginFrame.failures, strings := s.beginFrame.strings,
    progress := .driving 0, nextFrame := some s.timing.period } := by
  have picture : ∃ lamps zones horn fault notices snapshot drive failures strings, s.beginFrame = { s with
      lamps := lamps, zones := zones, horn := horn, fault := fault, notices := notices, snapshot := snapshot
      drive := drive, failures := failures, strings := strings
      progress := .driving 0, nextFrame := some s.timing.period } := by
    obtain ⟨lamps, zones, horn, fault, notices, reads⟩ : ∃ lamps zones horn fault notices, s.frameReads = { s with
        lamps := lamps, zones := zones, horn := horn, fault := fault, notices := notices } :=
      ⟨_, _, _, _, _, s.frameReads_frame⟩
    obtain ⟨snapshot, taken⟩ : ∃ snapshot, s.frameReads.takeSnapshot = { s.frameReads with snapshot := snapshot } :=
      ⟨_, s.frameReads.takeSnapshot_frame⟩
    rw [reads] at taken
    unfold beginFrame
    rw [reads, taken]
    dsimp only
    rw [forcePending_frame]
    exact ⟨_, _, _, _, _, _, _, _, _, rfl⟩
  obtain ⟨_, _, _, _, _, _, _, _, _, h⟩ := picture
  rw [h]

theorem State.startScan_frameCount (s : State) : s.startScan.frameCount = 0 := by
  unfold startScan
  rw [beginFrame_frame]

/-- Settles O38. -/
theorem scanIsStartedAndStopped : Obligations.ScanIsStartedAndStopped := by
  intro s p tag upsets telemetry
  refine ⟨fun taken => ⟨fun dark => ?_, fun run => ?_⟩, fun taken => ⟨fun dark => ?_, fun run => ?_⟩⟩
  · refine exec_judged_landed rfl taken rfl rfl ((State.unless_telemetry_of_ne telemetry _ _).trans ?_)
    have scan : ((s.land upsets).takeHead p).scan = .dark := by rw [State.takeHead_scan, State.land_frame, dark]
    have timing : (s.land upsets).takeHead p = { (s.land upsets).takeHead p with
        timing := s.timing, pendingTiming := s.pendingTiming } := by rw [State.land_frame]; rfl
    rw [scan]
    dsimp only
    rw [State.startScan_frameCount]
    unfold State.startScan
    rw [timing]
    rfl
  · refine exec_judged_landed rfl taken rfl rfl ((State.unless_telemetry_of_ne telemetry _ _).trans ?_)
    have scan : ((s.land upsets).takeHead p).scan = .running := by rw [State.takeHead_scan, State.land_frame, run]
    have count : ((s.land upsets).takeHead p).frameCount = s.frameCount := by
      rw [State.takeHead_frameCount, State.land_frame]
    rw [scan]
    dsimp only
    rw [count]
    rfl
  · refine exec_judged rfl taken rfl rfl ((State.unless_telemetry_of_ne telemetry _ _).trans ?_)
    rw [State.takeHead_scan, dark]
    rfl
  · refine ⟨{ s.takeHead p with
      scan := .dark, nextFrame := none, progress := .none, latched := Vector.replicate 16 [], hold := .free
      session := .off }, State.lampOn_off rfl, rfl, ?_⟩
    refine exec_judged rfl taken rfl rfl ((State.unless_telemetry_of_ne telemetry _ _).trans ?_)
    rw [State.takeHead_scan, run]
    dsimp only
    rw [State.stopScan]
    cases hold : s.hold with
    | free =>
      cases session : s.session with
      | off => simp only [State.takeHead_hold, State.takeHead_session, hold, session, if_true]; rfl
      | on source limit =>
        simp only [State.takeHead_hold, State.takeHead_session, hold, session, if_true, if_false, reduceCtorEq]; rfl
    | held q start limit =>
      cases session : s.session with
      | off => simp only [State.takeHead_hold, State.takeHead_session, hold, session, if_true, if_false, reduceCtorEq]; rfl
      | on source limit =>
        simp only [State.takeHead_hold, State.takeHead_session, hold, session, if_false, reduceCtorEq]; rfl

theorem exec_frameStart {s : State} (upsets : List Upset) (awake : s.resetAsserted = false) (run : s.scan = .running)
    (answered : s.progress = .answering []) :
    exec (.frameStart upsets) s = .next (s.land upsets).phaseAdvance.beginFrame :=
  congrArg Host.Outcome.next (if_pos ⟨awake, run, answered⟩)

theorem advance_eq (period phase new : Nat) :
    advance period phase new = if new ≠ period then 0 else (phase + 1) % period := by
  rw [advance, ite_not]

/-- Settles O42: the picture leaves the timing and the counters as the phase advance set them. -/
theorem phaseAdvanceAtFrameStart : Obligations.PhaseAdvanceAtFrameStart := by
  refine ⟨fun s upsets awake run answered => ⟨_, exec_frameStart upsets awake run answered, ?_⟩,
    fun s p tag upsets telemetry taken dark => ?_⟩
  · rw [State.beginFrame_frame, State.land_frame]
    dsimp only [State.phaseAdvance]
    refine ⟨fun new pending => ?_, fun pending => ?_, rfl, ?_⟩
    · rw [pending, Option.getD_some, advance_eq, advance_eq]
      exact ⟨rfl, rfl, rfl⟩
    · rw [pending, Option.getD_none, advance_eq, advance_eq]
      simp
    · simp [BitVec.toNat_add]
  · refine ⟨_, (scanIsStartedAndStopped s p tag upsets telemetry).1 taken |>.1 dark, ?_⟩
    rw [State.conclude_frame, State.beginFrame_frame]
    exact ⟨rfl, rfl, rfl⟩

/-! ### The arbitration mode (R159) -/

theorem ArbMode.ofCode?_code (m : ArbMode) : ArbMode.ofCode? m.code = some m := by cases m <;> rfl

theorem ArbMode.ofCode?_none {b : Byte} (h : b.toNat > 1) : ArbMode.ofCode? b = none := by
  have other (k : Byte) (small : k.toNat ≤ 1) : b ≠ k := fun same => by rw [same] at h; omega
  rw [ofCode?, if_neg (other _ (by decide)), if_neg (other _ (by decide))]

/-- Settles O56. -/
theorem arbitrationModeIsSet : Obligations.ArbitrationModeIsSet := by
  intro s p tag b taken
  refine ⟨fun desk => ?_, fun telemetry bad => ?_, fun telemetry m hb => ⟨_, ?_, rfl, rfl, ?_⟩⟩
  · subst desk
    exact refusedWith_judged rfl taken rfl rfl rfl rfl
  · refine refusedWith_judged rfl taken rfl rfl rfl ((State.unless_telemetry_of_ne telemetry _ _).trans ?_)
    rw [ArbMode.ofCode?_none bad]
  · have code : b = m.code := by rw [hb]; cases m <;> rfl
    refine exec_judged rfl taken rfl rfl ((State.unless_telemetry_of_ne telemetry _ _).trans ?_)
    rw [code, ArbMode.ofCode?_code, State.takeHead_mode]
    cases s.mode <;> rfl
  · cases m <;> rfl

end Sys2Proof.Machine
end

section
/-! SUPPORT. The fault record, the watch windows, notices and counters: their commands and codes (7.3, 8.1, 8.3, 10). -/

namespace Sys2Proof.Machine

/-! ### Sets (R152) -/

theorem FaultSet.setByte_eq (f : FaultSet) : f.setByte =
    byte ((if f.corrected then 1 else 0) + (if f.uncorrectable then 2 else 0) + (if f.chain then 4 else 0)) := by
  obtain ⟨c, u, h⟩ := f
  cases c <;> cases u <;> cases h <;> rfl

theorem PerPort.setByte_eq (q : PerPort Bool) : q.setByte =
    byte ((if q.t1 then 1 else 0) + (if q.t2 then 2 else 0) + (if q.d then 4 else 0)) := by
  obtain ⟨a, b, c⟩ := q
  cases a <;> cases b <;> cases c <;> rfl

theorem KindSet.setByte_eq (k : KindSet) : k.setByte =
    byte ((if k.aspect then 1 else 0) + (if k.attributes then 2 else 0) + (if k.alarm then 4 else 0) +
      (if k.ack then 8 else 0) + (if k.override then 16 else 0)) := by
  obtain ⟨a, b, c, d, e⟩ := k
  cases a <;> cases b <;> cases c <;> cases d <;> cases e <;> rfl

theorem portSetOf?_setByte (q : PerPort Bool) : portSetOf? q.setByte = some q := by
  obtain ⟨a, b, c⟩ := q
  cases a <;> cases b <;> cases c <;> rfl

theorem portSetOf?_none {b : Byte} (h : b.toNat > 7) : portSetOf? b = none := if_neg (by omega)

theorem kindSetOf?_none {b : Byte} (h : b.toNat > 31) : kindSetOf? b = none := if_neg (by omega)

theorem kindSetOf?_setByte (k : KindSet) : kindSetOf? k.setByte = some k := by
  obtain ⟨a, b, c, d, e⟩ := k
  cases a <;> cases b <;> cases c <;> cases d <;> cases e <;> rfl

theorem WindowAction.ofCode?_code (a : WindowAction) : WindowAction.ofCode? a.code = some a := by cases a <;> rfl

/-- A byte is the one that a set of ports is sent as exactly if it is the sum of its members' values. -/
theorem eq_setByte {b : Byte} {q : PerPort Bool}
    (h : b.toNat = (if q.t1 then 1 else 0) + (if q.t2 then 2 else 0) + (if q.d then 4 else 0)) : b = q.setByte := by
  rw [PerPort.setByte_eq, ← h, byte_self]

/-- A bit of a byte is its number divided by the bit's value, modulo 2. -/
theorem getLsbD_eq (b : Byte) (k : Nat) : b.getLsbD k = decide (b.toNat / 2 ^ k % 2 = 1) := by
  rw [BitVec.getLsbD, Nat.testBit_eq_decide_div_mod_eq]

/-! ### The fault record (R136 to R138) -/

/-- Settles O53: the sets by their bytes, the record by `FaultRecord.release` and `FaultRecord.report`. -/
theorem faultRecordIsReadReleasedAndMasked : Obligations.FaultRecordIsReadReleasedAndMasked := by
  intro s p tag b setByte named f left mask
  have sent : ∀ g : FaultSet, setByte g = g.setByte := fun g => g.setByte_eq.symm
  have read : faultSetOf b = mask := by
    rw [faultSetOf, getLsbD_eq, getLsbD_eq, getLsbD_eq]
    rfl
  refine ⟨fun taken => exec_judged rfl taken rfl rfl ?_, fun taken => exec_judged rfl taken rfl rfl ?_,
    fun telemetry taken => exec_judged rfl taken rfl rfl ((State.unless_telemetry_of_ne telemetry _ _).trans ?_)⟩
  · rw [sent, sent]
    show (s.takeHead p, Answer.done f.report) = _
    have kind : f.kind.elim Config.faultKindNone FaultKind.code = (f.kind.map FaultKind.code).getD Config.faultKindNone := by
      cases f.kind <;> rfl
    rw [FaultRecord.report, kind]
    rcases f.place with _ | ⟨_ | _⟩ <;> rfl
  · have kept : f.flags.without (faultSetOf b) = left := by rw [read]; rfl
    have after : f.release (faultSetOf b) = if left.corrected || left.uncorrectable || left.chain then
        { f with flags := left }
        else { flags := left, mask := f.mask, kind := none, place := none, frame := 0, more := false } := by
      rw [FaultRecord.release, kept]
      rfl
    have flags : (f.release (faultSetOf b)).flags = left := by
      rw [after]
      split <;> rfl
    show ({ s.takeHead p with fault := f.release (faultSetOf b) }, Answer.done [(f.release (faultSetOf b)).flags.setByte]) = _
    rw [flags, after, sent]
  · rw [read, sent]
    rfl

/-! ### The watch windows (R140, R141, R146, R147) -/

theorem windowNoOf?_some {b : Byte} {n : WindowNo} (h : n.val = b.toNat) : windowNoOf? b = some n := by
  have hn := n.isLt
  rw [windowNoOf?, dif_pos (by omega)]
  exact congrArg some (Fin.ext h.symm)

theorem windowNoOf?_none {b : Byte} (h : b.toNat > 3) : windowNoOf? b = none := dif_neg (by omega)

/-- A window's own fields give the window back (R141). -/
theorem window?_of_fields (n : Byte) (w : Window) :
    WindowSetting.window? ⟨n, w.lower.val, w.upper.val, w.sources.setByte, w.kinds.setByte, w.action.code⟩ = some w := by
  simp only [WindowSetting.window?, lampOf?_some (rfl : w.lower.val = _), lampOf?_some (rfl : w.upper.val = _),
    portSetOf?_setByte, kindSetOf?_setByte, WindowAction.ofCode?_code]

theorem parseSetWindow_fields (n : Byte) (w : Window) : parseSetWindow (n :: w.report) =
    some ⟨n, w.lower.val, w.upper.val, w.sources.setByte, w.kinds.setByte, w.action.code⟩ := by
  have low := number16_bytes16 (show w.lower.val < 65536 by omega)
  have high := number16_bytes16 (show w.upper.val < 65536 by omega)
  show some (WindowSetting.mk n (number16 (byte (w.lower.val / 256)) (byte w.lower.val))
    (number16 (byte (w.upper.val / 256)) (byte w.upper.val)) _ _ _) = _
  rw [low, high]

/-- A setting with a field out of its range describes no window (R141). -/
theorem window?_none {a : WindowSetting} (bad : a.lower > 4095 ∨ a.upper > 4095 ∨ a.sources.toNat > 7 ∨
    a.kinds.toNat > 31 ∨ a.action.toNat > 1) : a.window? = none := by
  have action (h : a.action.toNat > 1) : WindowAction.ofCode? a.action = none := by
    have other (k : Byte) (small : k.toNat ≤ 1) : a.action ≠ k := fun same => by rw [same] at h; omega
    rw [WindowAction.ofCode?, if_neg (other _ (by decide)), if_neg (other _ (by decide))]
  unfold WindowSetting.window?
  split
  · rename_i lower upper sources kinds act
    exfalso
    rcases bad with h | h | h | h | h
    · cases (lampOf?_none h).symm.trans lower
    · cases (lampOf?_none h).symm.trans upper
    · cases (portSetOf?_none h).symm.trans sources
    · cases (kindSetOf?_none h).symm.trans kinds
    · cases (action h).symm.trans act
  · rfl

theorem judgeSetWindow_range {s : State} {a : WindowSetting} (bad : windowNoOf? a.window = none ∨ a.window? = none) :
    judgeSetWindow s a = (s, ⟨.range, [a.window]⟩) := by
  unfold judgeSetWindow
  split
  · rename_i number window
    rcases bad with h | h
    · cases h.symm.trans number
    · cases h.symm.trans window
  · rfl

/-- Settles O54. -/
theorem watchWindowsAreSetReadAndReleased : Obligations.WatchWindowsAreSetReadAndReleased := by
  intro s p tag kindsByte portsByte fields active
  have sent : ∀ w : Window, fields w = w.report := fun w => by
    simp only [fields, portsByte, kindsByte, Window.report, PerPort.setByte_eq, KindSet.setByte_eq]
  refine ⟨?_, ?_, ?_, ?_⟩
  · intro n w payload taken
    have number : windowNoOf? (byte n.val) = some n := windowNoOf?_some (byte_toNat (by omega)).symm
    have read : parseSetWindow payload =
        some ⟨byte n.val, w.lower.val, w.upper.val, w.sources.setByte, w.kinds.setByte, w.action.code⟩ := by
      rw [← parseSetWindow_fields, ← sent]
    refine exec_judged rfl taken read rfl ?_
    rw [judgeSetWindow, window?_of_fields, number]
    simp only [payload, sent]
    rfl
  · intro n l1 l0 u1 u0 src kinds action payload bad taken
    have read : parseSetWindow payload = some ⟨n, number16 l1 l0, number16 u1 u0, src, kinds, action⟩ := rfl
    exact refusedWith_judged rfl taken read rfl rfl
      (judgeSetWindow_range (bad.imp windowNoOf?_none fun h => window?_none h))
  · intro taken
    refine exec_judged rfl taken rfl rfl ?_
    have capture : s.capture.report = (match s.capture.hit with
        | some h => [Config.captureFrozen, byte h.window.val, portCode h.port, h.code, h.scope, h.kind.code] ++
            bytes16 h.lamp.val ++ [if h.blocked then 0x01 else 0x00] ++ bytes32 h.frame
        | none => [Config.captureFree, 0xFF, 0x00, 0xFF, 0xFF, Config.watchKindNone, 0xFF, 0xFF,
            Config.watchOutcomeNone, 0x00, 0x00, 0x00, 0x00]) ++ [flagByte s.capture.more] := by
      unfold Capture.report
      cases s.capture.hit <;> rfl
    rw [toList_flatMap]
    show (s.takeHead p, Answer.done (s.capture.report ++ _)) = _
    rw [capture]
    simp only [sent]
    rfl
  · exact fun taken => exec_judged rfl taken rfl rfl rfl

/-! ### Notices and counters (R164 to R170) -/

/-- An attention line is asserted, outside reset, while some kind is pending (R166). -/
theorem State.attention_iff (s : State) (p : Port) : s.attention p = true ↔
    s.resetAsserted = false ∧ ∃ k : NoticeKind, (s.notices.get p)[k.index] = true := by
  have kind : ∀ j : Fin 10, ∃ k : NoticeKind, k.index = j := by
    intro j
    fin_cases j
    exacts [⟨.alarm, rfl⟩, ⟨.horn, rfl⟩, ⟨.failure, rfl⟩, ⟨.lapse, rfl⟩, ⟨.link, rfl⟩, ⟨.watch, rfl⟩, ⟨.fault, rfl⟩,
      ⟨.handover, rfl⟩, ⟨.hold, rfl⟩, ⟨.test, rfl⟩]
  simp only [attention, Bool.and_eq_true, Bool.not_eq_true', List.any_eq_true, id_eq, exists_eq_right,
    Vector.mem_toList_iff]
  refine and_congr_right fun _ => ⟨fun mem => ?_, fun ⟨k, pending⟩ => ?_⟩
  · obtain ⟨j, hj, pending⟩ := Vector.getElem_of_mem mem
    obtain ⟨k, hk⟩ := kind ⟨j, hj⟩
    refine ⟨k, ?_⟩
    rw [Fin.getElem_fin]
    simp only [hk]
    exact pending
  · rw [← pending]
    exact Vector.getElem_mem k.index.isLt

theorem PerPort.every_iff (q : PerPort Bool) : q.every = true ↔ ∀ p, q.get p = true := by
  simp only [every, Bool.and_eq_true]
  exact ⟨fun ⟨⟨h1, h2⟩, hd⟩ p => (by cases p <;> assumption), fun h => ⟨⟨h .t1, h .t2⟩, h .d⟩⟩

/-- What a counter counts (R169). -/
theorem Counter.counts_iff (c : Counter) (e : CounterEvent) (p : Option Port) (z : Option ZoneNo) :
    c.counts e p z = true ↔ c.event = e ∧ (∀ q, p = some q → c.ports.get q = true) ∧
      (p = none → ∀ q, c.ports.get q = true) ∧ (∀ y, c.zone = some y → z = some y) := by
  unfold counts
  simp only [Bool.and_eq_true, decide_eq_true_eq, and_assoc]
  refine and_congr_right fun _ => ?_
  cases p with
  | none => cases c.zone <;> simp [PerPort.every_iff]
  | some q => cases c.zone <;> simp

/-- One more on a counter, as a number (R169). -/
theorem Counter.bump_eq (c : Counter) : c.bump = { c with
    value := if c.mode = .stick ∧ c.value.toNat = 4294967295 then c.value
      else BitVec.ofNat 32 ((c.value.toNat + 1) % 4294967296) } := by
  have top : c.value = BitVec.allOnes 32 ↔ c.value.toNat = 4294967295 := by
    rw [← BitVec.toNat_inj]
    simp
  have next : c.value + 1 = BitVec.ofNat 32 ((c.value.toNat + 1) % 4294967296) := by
    apply BitVec.eq_of_toNat_eq
    simp [BitVec.toNat_add]
  by_cases stays : c.mode = .stick ∧ c.value = BitVec.allOnes 32
  · rw [bump, if_pos stays, if_pos ⟨stays.1, top.1 stays.2⟩]
  · rw [bump, if_neg stays, if_neg fun h => stays ⟨h.1, top.2 h.2⟩, next]

theorem NoticeKind.ofCode?_code (k : NoticeKind) : NoticeKind.ofCode? (byte (k.index.val + 1)) = some k := by
  cases k <;> rfl

theorem NoticeKind.ofCode?_none {b : Byte} (h : b.toNat = 0 ∨ b.toNat > 10) : NoticeKind.ofCode? b = none := by
  refine List.find?_eq_none.2 fun k _ => ?_
  rw [decide_eq_true_eq]
  have := k.index.isLt
  omega

theorem judgeSetRouting_range {s : State} {a : Byte × Byte}
    (bad : NoticeKind.ofCode? a.1 = none ∨ portSetOf? a.2 = none) : judgeSetRouting s a = (s, ⟨.range, [a.1]⟩) := by
  unfold judgeSetRouting
  split
  · rename_i kind ports
    rcases bad with h | h
    · cases h.symm.trans kind
    · cases h.symm.trans ports
  · rfl

/-- The bits of a set as it is sent are its members (R152). -/
theorem sumOf_testBit (l : List Bool) (k : Nat) : (sumOf l).testBit k = l.getD k false := by
  induction l generalizing k with
  | nil => simp [sumOf]
  | cons b bs ih =>
    have half : sumOf (b :: bs) / 2 = sumOf bs := by
      rw [sumOf]
      split <;> omega
    cases k with
    | zero =>
      rw [sumOf, Nat.testBit_zero, List.getD_cons_zero]
      cases b
      · simp
      · simp
    | succ k => rw [Nat.testBit_succ, half, ih, List.getD_cons_succ]

theorem sumOf_lt (l : List Bool) : sumOf l < 2 ^ l.length := by
  induction l with
  | nil => simp [sumOf]
  | cons b bs ih =>
    rw [sumOf, List.length_cons, Nat.pow_succ]
    split <;> omega

theorem CounterEvent.ofCode?_code (e : CounterEvent) : CounterEvent.ofCode? e.code = some e := by cases e <;> rfl

theorem CounterEvent.ofCode?_none {b : Byte} (h : b.toNat = 0 ∨ b.toNat > 9) : CounterEvent.ofCode? b = none := by
  refine List.find?_eq_none.2 fun e _ => ?_
  rw [decide_eq_true_eq]
  rintro rfl
  revert h
  cases e <;> decide

theorem CounterMode.ofCode?_code (m : CounterMode) : CounterMode.ofCode? m.code = some m := by cases m <;> rfl

theorem CounterMode.ofCode?_none {b : Byte} (h : b.toNat > 1) : CounterMode.ofCode? b = none := by
  have other (k : Byte) (small : k.toNat ≤ 1) : b ≠ k := fun same => by rw [same] at h; omega
  rw [ofCode?, if_neg (other _ (by decide)), if_neg (other _ (by decide))]

theorem zoneFilterOf?_field (z : Option ZoneNo) : zoneFilterOf? (z.elim 0xFF fun y => byte y.val) = some z := by
  cases z with
  | none => rfl
  | some y =>
    have value : (byte y.val).toNat = y.val := byte_toNat (by omega)
    have other : byte y.val ≠ 0xFF := fun same => by
      have : y.val = 255 := by rw [← value, same]; rfl
      omega
    rw [Option.elim_some, zoneFilterOf?, if_neg other, zoneNoOf?_some value.symm]
    rfl

theorem zoneFilterOf?_none {b : Byte} (high : b.toNat > 63) (present : b.toNat ≠ 255) : zoneFilterOf? b = none := by
  have other : b ≠ 0xFF := fun same => present (by rw [same]; rfl)
  rw [zoneFilterOf?, if_neg other, zoneNoOf?_none high]
  rfl

/-- A setting with a field out of its range describes no counter (R170). -/
theorem counter?_none {a : CounterSetting} (bad : a.event.toNat = 0 ∨ a.event.toNat > 9 ∨ a.ports.toNat > 7 ∨
    (a.zone.toNat > 63 ∧ a.zone.toNat ≠ 255) ∨ a.mode.toNat > 1) : a.counter? = none := by
  unfold CounterSetting.counter?
  split
  · rename_i event ports zone mode
    exfalso
    rcases bad with h | h | h | h | h
    · cases (CounterEvent.ofCode?_none (.inl h)).symm.trans event
    · cases (CounterEvent.ofCode?_none (.inr h)).symm.trans event
    · cases (portSetOf?_none h).symm.trans ports
    · cases (zoneFilterOf?_none h.1 h.2).symm.trans zone
    · cases (CounterMode.ofCode?_none h).symm.trans mode
  · rfl

theorem counterNoOf?_some {b : Byte} {n : CounterNo} (h : b.toNat = n.val) : counterNoOf? b = some n := by
  have hn := n.isLt
  rw [counterNoOf?, dif_pos (by omega)]
  exact congrArg some (Fin.ext h)

theorem counterNoOf?_none {b : Byte} (h : b.toNat > 3) : counterNoOf? b = none := dif_neg (by omega)

theorem judgeSetCounter_range {s : State} {a : CounterSetting} (bad : counterNoOf? a.counter = none ∨ a.counter? = none) :
    judgeSetCounter s a = (s, ⟨.range, [a.counter]⟩) := by
  unfold judgeSetCounter
  split
  · rename_i number counter
    rcases bad with h | h
    · cases h.symm.trans number
    · cases h.symm.trans counter
  · rfl

/-- A counter's own settings give it back, its value 0 (R170). -/
theorem counter?_of_settings {n : Byte} {c : Counter} (fresh : c.value = 0) :
    CounterSetting.counter? ⟨n, c.event.code, c.ports.setByte, c.zone.elim 0xFF fun y => byte y.val, c.mode.code⟩ =
      some c := by
  simp only [CounterSetting.counter?, CounterEvent.ofCode?_code, portSetOf?_setByte, zoneFilterOf?_field,
    CounterMode.ofCode?_code]
  rw [← fresh]

theorem takeNotices_bits (N : Vector Bool 10) : ∃ hi lo : Byte, noticeSetBytes N = [hi, lo] ∧
    (∀ j : Fin 10, (number16 hi lo).testBit j.val = N[j]) ∧ number16 hi lo < 1024 := by
  have bound : sumOf N.toList < 1024 := by simpa using sumOf_lt N.toList
  refine ⟨byte (sumOf N.toList / 256), byte (sumOf N.toList), rfl, fun j => ?_, ?_⟩
  · rw [number16_bytes16 (by omega), sumOf_testBit]
    simp
  · rw [number16_bytes16 (by omega)]
    exact bound

/-- Settles O57. -/
theorem noticesAreRoutedAndEventsCounted : Obligations.NoticesAreRoutedAndEventsCounted := by
  refine ⟨fun s k => ⟨s.raise_frame k, fun p j => s.raise_get k j p⟩, State.attention_iff,
    fun s e p z => ⟨s.report_frame e p z, ?counts⟩, ?routing, ?routingKind, ?take, ?counter⟩
  case counts =>
    intro j c takes
    have told : (s.report e p z).counters[j] = if c.counts e p z then c.bump else c :=
      s.report_get e p z j.val j.isLt
    rw [told]
    refine ⟨fun h => ?_, fun h => ?_⟩
    · rw [if_pos ((c.counts_iff e p z).2 h), c.bump_eq]
    · rw [if_neg fun counted => h ((c.counts_iff e p z).1 counted)]
  case routing =>
    intro s p tag k set payload taken
    refine ⟨fun ports sum => ?_, fun big => ?_⟩
    · refine exec_judged (a := (byte (k.index.val + 1), set)) rfl taken rfl rfl ?_
      rw [eq_setByte sum, judgeSetRouting, NoticeKind.ofCode?_code, portSetOf?_setByte]
      simp only [payload, eq_setByte sum]
      rfl
    · exact refusedWith_judged (parse := parse2) rfl taken rfl rfl rfl (judgeSetRouting_range (.inr (portSetOf?_none big)))
  case routingKind =>
    intro s p tag k set bad taken
    exact refusedWith_judged (parse := parse2) rfl taken rfl rfl rfl (judgeSetRouting_range (.inl (NoticeKind.ofCode?_none bad)))
  case take =>
    intro s p tag taken
    obtain ⟨hi, lo, bytes, bits, bound⟩ := takeNotices_bits (s.notices.get p)
    refine ⟨s.notices.set p (Vector.replicate 10 false), hi, lo, fun j => ?_, fun q other => ?_, bits, bound, ?_⟩
    · rw [PerPort.get_set_same]
      exact Vector.getElem_replicate _
    · rw [PerPort.get_set_other _ _ other]
    · refine exec_judged rfl taken rfl rfl ?_
      show (_, Answer.done (noticeSetBytes (s.notices.get p))) = _
      rw [bytes]
      rfl
  case counter =>
    intro s p tag n e set z m payload bad taken
    refine ⟨fun wrong => ?_, fun j c number event sum zone mode fresh => ?_⟩
    · refine refusedWith_judged (a := ⟨n, e, set, z, m⟩) rfl taken rfl rfl rfl (judgeSetCounter_range ?_)
      exact wrong.imp counterNoOf?_none fun h => counter?_none h
    · have settings : payload = [n, c.event.code, c.ports.setByte, c.zone.elim 0xFF fun y => byte y.val, c.mode.code] := by
        simp only [payload, event, eq_setByte sum, zone, mode]
      have read : parseSetCounter payload =
          some ⟨n, c.event.code, c.ports.setByte, c.zone.elim 0xFF fun y => byte y.val, c.mode.code⟩ := by
        rw [settings]; rfl
      refine exec_judged rfl taken read rfl ?_
      rw [judgeSetCounter, counter?_of_settings fresh, counterNoOf?_some number, settings]
      rfl

end Sys2Proof.Machine
end

section
/-! SUPPORT. Aspect precedence and levels (5.4, 5.5), the driving of a frame (6.2), checking reads and faults (7.2, 7.3),
and the failure list (7.1). -/

namespace Sys2Proof.Machine

/-! ### Aspect precedence (R87) -/

theorem ZoneRecord.decides_iff (z : ZoneRecord) (n : Nat) : z.decides n = true ↔
    z.enabled = true ∧ z.summary.map Fin.val = some n ∧ (z.unack > 0 ∨ z.standing > 0) := by
  simp only [decides, Bool.and_eq_true, Bool.or_eq_true, decide_eq_true_eq, and_assoc]

/-- The summary role is given by the lowest-numbered deciding zone (R45). -/
theorem State.summaryAspect_some {s : State} {n : Nat} {z : ZoneNo} (decides : s.zones[z].decides n = true)
    (least : ∀ y, y < z → ¬ s.zones[y].decides n = true) :
    s.summaryAspect n = some (if s.zones[z].unack > 0 then .fast else .lit) := by
  have found : (List.finRange 64).find? (fun z => s.zones[z].decides n) = some z := (find?_finRange _ _).2 ⟨decides, least⟩
  rw [summaryAspect, found]
  rfl

theorem State.summaryAspect_none {s : State} {n : Nat} (silent : ∀ z : ZoneNo, ¬ s.zones[z].decides n = true) :
    s.summaryAspect n = none := by
  have found : (List.finRange 64).find? (fun z => s.zones[z].decides n) = none := (find?_finRange_eq_none _).2 silent
  rw [summaryAspect, found]
  rfl

theorem State.staleTreatment_stale {s : State} {n : Nat} {z : ZoneNo} (zone : s.zoneOf n = some z)
    (stale : s.zones[z].stale = true) : s.staleTreatment n = some s.zones[z].treatment := by
  rw [staleTreatment, zone, Option.bind_some, stale]
  rfl

theorem State.staleTreatment_current {s : State} {n : Nat} (current : ∀ z, s.zoneOf n = some z → s.zones[z].stale = false) :
    s.staleTreatment n = none := by
  unfold staleTreatment
  cases zone : s.zoneOf n with
  | none => rfl
  | some z => rw [Option.bind_some, current z zone]; rfl

section resolveAspect
variable {s : State} {n : Nat} {l : LampRecord}

theorem State.resolveAspect_suspect (h : l.suspect = true) : s.resolveAspect n l = (.slow, false) := if_pos h

theorem State.resolveAspect_override (h : l.suspect = false) {a : Aspect} (o : l.override = some a) :
    s.resolveAspect n l = (a, false) := by
  simp [resolveAspect, h, o]

theorem State.resolveAspect_alarm (h : l.suspect = false) (o : l.override = none) {a : Aspect}
    (contributes : l.alarm.contribution = some a) : s.resolveAspect n l = (a, false) := by
  simp [resolveAspect, h, o, contributes]

theorem State.resolveAspect_summary (h : l.suspect = false) (o : l.override = none) (normal : l.alarm = .normal)
    {a : Aspect} (summary : s.summaryAspect n = some a) : s.resolveAspect n l = (a, false) := by
  simp [resolveAspect, h, o, normal, AlarmState.contribution, summary]

/-- The lowest layer: the telemetry aspect under its stale treatment (R43). -/
theorem State.resolveAspect_telemetry (h : l.suspect = false) (o : l.override = none) (normal : l.alarm = .normal)
    (summary : s.summaryAspect n = none) {t : Option Treatment} (treatment : s.staleTreatment n = t) :
    s.resolveAspect n l = (treatedAspect t l.telemetry, decide (t = some .dim)) := by
  subst treatment
  simp [resolveAspect, h, o, normal, AlarmState.contribution, summary]

end resolveAspect

/-- Settles O44: the layers of `State.resolveAspect` in turn, each with its level. -/
theorem aspectPrecedenceAndLevels : Obligations.AspectPrecedenceAndLevels := by
  intro s n l level shows decides
  have shown {a : Aspect} {q : Bool} (h : s.resolveAspect n l = (a, q)) : shows a q := by
    simp only [shows, State.resolve, h]
    rfl
  refine ⟨fun suspect => shown (State.resolveAspect_suspect suspect), fun h =>
    ⟨fun a o => shown (State.resolveAspect_override h o), fun o => ⟨fun new => ?_, fun standing => ?_, fun returned => ?_,
      fun normal => ⟨fun z deciding least => ?_, fun silent => ⟨fun z zone stale => ?_, fun current => ?_⟩⟩⟩⟩⟩
  · exact shown (State.resolveAspect_alarm h o (by rw [new]; rfl))
  · exact shown (State.resolveAspect_alarm h o (by rw [standing]; rfl))
  · exact shown (State.resolveAspect_alarm h o (by rw [returned]; rfl))
  · exact shown (State.resolveAspect_summary h o normal (State.summaryAspect_some ((ZoneRecord.decides_iff _ _).2 deciding)
      fun y below other => least y below ((ZoneRecord.decides_iff _ _).1 other)))
  · have none := State.summaryAspect_none fun z deciding => silent z ((ZoneRecord.decides_iff _ n).1 deciding)
    have lowest := State.resolveAspect_telemetry h o normal none (State.staleTreatment_stale zone stale)
    refine ⟨fun keep => ?_, fun dim => ?_, fun blink => ?_⟩
    · rw [keep] at lowest; exact shown lowest
    · rw [dim] at lowest; exact shown lowest
    · rw [blink] at lowest
      refine shown (lowest.trans ?_)
      simp [treatedAspect]
  · have none := State.summaryAspect_none fun z deciding => silent z ((ZoneRecord.decides_iff _ n).1 deciding)
    exact shown (State.resolveAspect_telemetry h o normal none (State.staleTreatment_current current))

/-! ### Driving a frame (R106, R107) -/

/-- The bit a string gets for one of its outputs in sub-frame `j`, and whether it gets one (R106). -/
theorem shiftBits_lamp (s : State) (j : Nat) (i : Lamp) (n : StringNo) (string : n.val = i.val / 256) :
    (decide (i.val % 256 < (s.shiftBits j n).length) &&
      (s.shiftBits j n).getD ((s.shiftBits j n).length - 1 - i.val % 256) false) =
      decide (i.val % 256 / 8 < s.strings[n].count ∧ j < s.drive[i]) := by
  have hi := i.isLt
  have counted : (s.strings[n.val]?.map StringRecord.count).getD 0 = s.strings[n].count := by
    rw [Vector.getElem?_eq_getElem n.isLt]
    rfl
  have length : (s.shiftBits j n).length = min (8 * s.strings[n].count) (4096 - 256 * n.val) := by
    rw [State.shiftBits, counted]
    simp
  have onModule : i.val % 256 < (s.shiftBits j n).length ↔ i.val % 256 / 8 < s.strings[n].count := by
    rw [length]
    omega
  by_cases inDrive : i.val % 256 / 8 < s.strings[n].count
  · have here := onModule.2 inDrive
    have bit : (s.shiftBits j n).getD ((s.shiftBits j n).length - 1 - i.val % 256) false = decide (j < s.drive[i]) := by
      rw [List.getD_eq_getElem _ _ (by omega)]
      simp only [State.shiftBits, List.getElem_reverse, List.getElem_map, List.getElem_take, List.getElem_drop,
        List.length_reverse, List.length_map, Vector.getElem_toList]
      have place : 256 * n.val + i.val % 256 = i.val := by omega
      rw [length] at here
      simp only [List.length_take, List.length_drop, Vector.length_toList, counted]
      congr 2
      show s.drive[_] = s.drive[i.val]
      congr 1
      omega
    rw [bit, decide_eq_true here, Bool.true_and]
    exact decide_eq_decide.2 ⟨fun h => ⟨inDrive, h⟩, And.right⟩
  · rw [decide_eq_false (mt onModule.1 inDrive), Bool.false_and]
    exact (decide_eq_false fun h => inDrive h.1).symm

/-- Settles O45. -/
theorem subFramesDriveTheLamps : Obligations.SubFramesDriveTheLamps := by
  refine ⟨fun s j awake driving more => ?_, fun s awake closed => ⟨s.driven, fun n => ?_, ?_, ?_⟩⟩
  · refine ⟨{ s with latched := bankMap (fun n _ => s.shiftBits j n) s.latched, progress := .driving (j + 1) }, ?_, rfl,
      fun i n string => ?_⟩
    · refine congrArg Host.Outcome.next ?_
      rw [awake, driving]
      exact if_pos more
    · have bits : ((bankMap (fun n _ => s.shiftBits j n) s.latched)[stringOf i.val]?).getD [] = s.shiftBits j n := by
        rw [show stringOf i.val = n.val from string.symm, Vector.getElem?_eq_getElem n.isLt, bankMap_getElem]
        rfl
      unfold State.lampOn
      dsimp only
      rw [bits]
      exact shiftBits_lamp s j i n string
  · simp [State.driven]
  · exact (List.nodup_finRange 16).filter _
  · exact congrArg Host.Outcome.next (if_pos ⟨awake, closed⟩)

/-! ### Checking reads and faults (R131 to R135) -/

/-- Settles O52: each branch of a checking read and of a report. -/
theorem checkingReadsAndFaultReports : Obligations.CheckingReadsAndFaultReports := by
  refine ⟨fun s i => ?_, fun s k place => ?_⟩
  · intro l inZone
    refine ⟨State.checkLamp_clean, fun single => ?_, fun double => ?_⟩
    · rw [State.checkLamp, show s.lamps[i].integrity = .single from single]
    · refine ⟨(s.countChange i s.lamps[i].alarm .normal).zones, fun z => ?_, ?_⟩
      · rw [State.countChange_zones]
        by_cases here : s.zoneOf i.val = some z
        · rw [if_pos here]
          have inside : inZone z = true := decide_eq_true here
          simp only [inside, Bool.true_and, l]
          cases s.lamps[i].alarm <;> simp [AlarmState.unack, AlarmState.stands]
        · rw [if_neg here]
          have outside : inZone z = false := decide_eq_false here
          simp [outside]
      · rw [State.checkLamp, show s.lamps[i].integrity = .double from double]
        dsimp only
        conv_lhs => rw [State.countChange_frame]
        rfl
  · intro flagged
    refine ⟨fun masked => if_pos masked, fun open_ free => ?_, fun open_ frozen => ?_, fun j => ?_⟩
    · rw [State.reportFault, if_neg (by rw [open_]; decide), if_neg (by rw [free]; decide)]
    · rw [State.reportFault, if_neg (by rw [open_]; decide), if_pos frozen]
    · cases k <;> cases j <;> simp [flagged, FaultSet.add, FaultSet.has]

/-! ### The failure list (R123 to R129) -/

/-- TAKE FAILURES marks or removes the entries it returns and leaves the others (R128). -/
theorem takeEntries_eq (n : Nat) {l : List FailureEntry} (nodup : l.Nodup) :
    takeEntries n l = l.filterMap fun e => if e ∈ returnedEntries n l then
      (if e.recovered then none else some { e with reported := true }) else some e := by
  induction l generalizing n with
  | nil => cases n <;> rfl
  | cons e es ih =>
    obtain ⟨fresh, nodup⟩ := List.nodup_cons.1 nodup
    cases n with
    | zero => simp [takeEntries, returnedEntries]
    | succ n =>
      cases reported : e.reported with
      | true =>
        have same : returnedEntries (n + 1) (e :: es) = returnedEntries (n + 1) es := by
          simp [returnedEntries, reported]
        have absent : e ∉ returnedEntries (n + 1) es := fun mem => by
          have := (List.mem_filter.1 (List.mem_of_mem_take mem)).2
          simp [reported] at this
        rw [takeEntries, if_pos reported, same, List.filterMap_cons, if_neg absent, ih _ nodup]
      | false =>
        have split : returnedEntries (n + 1) (e :: es) = e :: returnedEntries n es := by
          simp [returnedEntries, reported]
        have rest : takeEntries n es = es.filterMap fun k => if k ∈ returnedEntries (n + 1) (e :: es) then
            (if k.recovered then none else some { k with reported := true }) else some k := by
          rw [ih _ nodup]
          refine List.filterMap_congr fun k hk => ?_
          have other : k ≠ e := fun h => fresh (h ▸ hk)
          simp only [split, List.mem_cons, other, false_or]
        have here : e ∈ returnedEntries (n + 1) (e :: es) := by rw [split]; exact List.mem_cons_self
        rw [takeEntries, if_neg (by rw [reported]; decide), List.filterMap_cons, ← rest, if_pos here]
        cases e.recovered <;> rfl

/-- Of the entries not yet reported, those returned are then reported or gone. -/
theorem takeEntries_countP (n : Nat) (l : List FailureEntry) :
    (takeEntries n l).countP (fun e => !e.reported) = (l.filter fun e => !e.reported).length - n := by
  induction l generalizing n with
  | nil => cases n <;> simp [takeEntries]
  | cons e es ih =>
    cases n with
    | zero => rw [takeEntries, List.countP_eq_length_filter, Nat.sub_zero]; exact fun h => by cases h
    | succ n =>
      unfold takeEntries
      cases reported : e.reported with
      | true => simp [reported, ih]
      | false => cases recovered : e.recovered <;> simp [reported, ih]

theorem failureBytes_eq (e : FailureEntry) : failureBytes e = bytes16 e.lamp.val ++ bytes32 e.frame ++
    [byte (e.kind.code.toNat + if e.recovered then 16 else 0)] := by
  unfold failureBytes flagByte
  cases e.recovered <;> rfl

theorem State.any_entry (s : State) (i : Lamp) :
    s.failures.any (fun e => decide (e.lamp = i)) = true ↔ ∃ e ∈ s.failures, e.lamp = i := by
  simp [List.any_eq_true]

/-- Settles O51. -/
theorem failureListIsKeptAndTaken : Obligations.FailureListIsKeptAndTaken := by
  refine ⟨fun s i k => ?_, fun s i => ?_, fun s p tag b lamps taken => ?_⟩
  · intro entry
    refine ⟨fun present => ⟨s.failures.map fun e => if e.lamp = i then entry else e, by simp, fun j h h' => by simp, ?_⟩,
      fun absent => ⟨fun room => ?_, fun full => ?_⟩⟩
    · rw [State.declare, if_pos ((s.any_entry i).2 present)]
    · have unlisted : ¬ s.failures.any (fun e => decide (e.lamp = i)) = true := fun h =>
        have ⟨e, mem, same⟩ := (s.any_entry i).1 h
        absent e mem same
      rw [State.declare, if_neg unlisted, if_pos (show s.failures.length < Config.failureDepth from room)]
    · have unlisted : ¬ s.failures.any (fun e => decide (e.lamp = i)) = true := fun h =>
        have ⟨e, mem, same⟩ := (s.any_entry i).1 h
        absent e mem same
      rw [State.declare, if_neg unlisted, if_neg (show ¬ s.failures.length < Config.failureDepth from Nat.not_lt.2 full)]
  · rw [State.becameGood]
    simp only [ne_eq, ite_not]
  · intro unreported returned
    refine ⟨fun low high => ?_, fun bad => ?_⟩
    · refine exec_judged rfl taken rfl rfl ((if_neg (by omega)).trans ?_)
      have list : takeEntries b.toNat s.failures = s.failures.filterMap fun e =>
          if e ∈ returned then (if e.recovered then none else some { e with reported := true }) else some e :=
        takeEntries_eq _ (List.Nodup.of_map _ lamps)
      have left : (takeEntries b.toNat s.failures).countP (fun e => !e.reported) =
          unreported.length - returned.length := by
        rw [takeEntries_countP]
        simp only [returned, unreported, List.length_take]
        omega
      dsimp only
      show ({ s.takeHead p with failures := takeEntries b.toNat s.failures, overflow := false },
        Answer.done ([flagByte s.overflow, byte returned.length,
          byte ((takeEntries b.toNat s.failures).countP fun e => !e.reported)] ++ returned.flatMap failureBytes)) = _
      rw [left, list, funext failureBytes_eq]
    · exact refusedWith_judged rfl taken rfl rfl rfl (if_pos bad)

end Sys2Proof.Machine
end

section
/-! SUPPORT. Takings that read the lamps they name (1.4, 4.2, 4.3): what the reads leave of the zones, the watch check that
every such taking ends in (8.2, 8.3), and how the checks of a batch come out. -/

namespace Sys2Proof.Machine

/-! ### Zones but for their counts -/

/-- Two states whose zones differ at most in their counts. -/
def SameZones (s t : State) : Prop :=
  ∀ z : ZoneNo, ∃ unack standing, t.zones[z] = { s.zones[z] with unack := unack, standing := standing }

theorem SameZones.of_eq {s t : State} (zones : t.zones = s.zones) : SameZones s t := fun z => ⟨_, _, by rw [zones]⟩

theorem SameZones.trans {s t u : State} (h : SameZones s t) (k : SameZones t u) : SameZones s u := fun z => by
  obtain ⟨_, _, ht⟩ := h z
  obtain ⟨_, _, hu⟩ := k z
  exact ⟨_, _, by rw [hu, ht]⟩

theorem SameZones.foldl {α : Type} {f : State → α → State} (h : ∀ s a, SameZones s (f s a)) (l : List α) (s : State) :
    SameZones s (l.foldl f s) := by
  induction l generalizing s with
  | nil => exact .of_eq rfl
  | cons a l ih => exact (h s a).trans (ih _)

theorem SameZones.owner {s t : State} (h : SameZones s t) (z : ZoneNo) : t.zones[z].owner = s.zones[z].owner := by
  obtain ⟨_, _, same⟩ := h z
  rw [same]

theorem SameZones.enabled {s t : State} (h : SameZones s t) (z : ZoneNo) : t.zones[z].enabled = s.zones[z].enabled := by
  obtain ⟨_, _, same⟩ := h z
  rw [same]

theorem SameZones.base {s t : State} (h : SameZones s t) (z : ZoneNo) : t.zones[z].base = s.zones[z].base := by
  obtain ⟨_, _, same⟩ := h z
  rw [same]

theorem SameZones.size {s t : State} (h : SameZones s t) (z : ZoneNo) : t.zones[z].size = s.zones[z].size := by
  obtain ⟨_, _, same⟩ := h z
  rw [same]

theorem SameZones.zoneOf {s t : State} (h : SameZones s t) (n : Nat) : t.zoneOf n = s.zoneOf n := by
  unfold State.zoneOf ZoneRecord.holds
  simp only [h.enabled, h.base, h.size]

theorem SameZones.mayWrite {s t : State} (h : SameZones s t) (p : Port) (i : Lamp) : t.mayWrite p i = s.mayWrite p i := by
  unfold State.mayWrite
  rw [h.zoneOf]
  cases s.zoneOf i.val with
  | none => rfl
  | some z => simp only [h.owner]

theorem sameZones_countChange (s : State) (i : Lamp) (was now : AlarmState) : SameZones s (s.countChange i was now) :=
  fun z => by
    rw [State.countChange_zones]
    split <;> exact ⟨_, _, rfl⟩

theorem sameZones_setAlarm (s : State) (i : Lamp) (a : AlarmState) : SameZones s (s.setAlarm i a) :=
  fun z => by
    rw [State.setAlarm_zones]
    split <;> exact ⟨_, _, rfl⟩

theorem sameZones_checkLamp (s : State) (i : Lamp) : SameZones s (s.checkLamp i) := by
  unfold State.checkLamp
  split
  · exact .of_eq rfl
  · exact .of_eq (by rw [State.reportFault_frame]; rfl)
  · refine (sameZones_countChange s i s.lamps[i].alarm .normal).trans (SameZones.of_eq ?_)
    rw [State.reportFault_frame, State.settleHorn_frame]
    rfl

theorem sameZones_checkLamps (s : State) (lamps : List Lamp) : SameZones s (s.checkLamps lamps) :=
  .foldl sameZones_checkLamp lamps s

/-! ### The state in which a command is judged -/

theorem State.land_takeHead (s : State) (p : Port) (upsets : List Upset) :
    (s.land upsets).takeHead p = { s.takeHead p with lamps := (s.land upsets).lamps } := by
  rw [land_frame]
  rfl

/-- Before its checks a taking changes at most its port's queue, the served order and what reads can. -/
theorem State.judgedIn_frame (s : State) (p : Port) (c : Instr) :
    s.judgedIn p c = { s.takeHead p with
      lamps := (s.judgedIn p c).lamps, zones := (s.judgedIn p c).zones, horn := (s.judgedIn p c).horn,
      fault := (s.judgedIn p c).fault, notices := (s.judgedIn p c).notices } := by
  rw [judgedIn_eq, checkLamps_frame, land_takeHead]

theorem State.judgedIn_windows (s : State) (p : Port) (c : Instr) : (s.judgedIn p c).windows = s.windows := by
  rw [judgedIn_frame]
  rfl

theorem State.judgedIn_frameCount (s : State) (p : Port) (c : Instr) : (s.judgedIn p c).frameCount = s.frameCount := by
  rw [judgedIn_frame]
  rfl

theorem sameZones_judgedIn (s : State) (p : Port) (c : Instr) : SameZones s (s.judgedIn p c) :=
  SameZones.trans (.of_eq (by rw [State.land_takeHead]; rfl)) (sameZones_checkLamps _ _)

/-! ### The watch check (8.2, 8.3) -/

/-- The first member of a list in rising order that meets a condition is the least that does. -/
theorem find?_least {α : Type} {key : α → Nat} {f : α → Bool} {l : List α} {b : α}
    (sorted : l.Pairwise fun x y => key x < key y) (mem : b ∈ l) (here : f b = true)
    (least : ∀ x ∈ l, f x = true → key b ≤ key x) : l.find? f = some b := by
  induction l with
  | nil => cases mem
  | cons x xs ih =>
    obtain ⟨below, sorted⟩ := List.pairwise_cons.1 sorted
    rcases List.mem_cons.1 mem with rfl | later
    · rw [List.find?_cons_of_pos here]
    · have other : ¬ f x = true := fun h =>
        absurd (least x List.mem_cons_self h) (Nat.not_le.2 (below b later))
      rw [List.find?_cons_of_neg other]
      exact ih sorted later fun y hy => least y (List.mem_cons_of_mem x hy)

section watch
variable {s : State} {p : Port} {k : WatchKind} {low high : Nat}

theorem State.mem_matches (n : WindowNo) (i : Lamp) :
    (n, i) ∈ s.matches p k low high ↔ s.windows[n].meets p k low high = some i := by
  simp only [State.matches, List.mem_filterMap, List.mem_finRange, true_and, Option.map_eq_some_iff, Prod.mk.injEq]
  constructor
  · rintro ⟨w, j, h, rfl, rfl⟩
    exact h
  · exact fun h => ⟨n, i, h, rfl, rfl⟩

theorem State.matches_sorted : (s.matches p k low high).Pairwise fun x y => x.1.val < y.1.val := by
  refine List.Pairwise.filterMap _ (fun a b below x hx y hy => ?_) (List.pairwise_lt_finRange 4)
  simp only [Option.map_eq_some_iff] at hx hy
  obtain ⟨_, -, rfl⟩ := hx
  obtain ⟨_, -, rfl⟩ := hy
  exact below

theorem Window.meets_iff (w : Window) (i : Lamp) : w.meets p k low high = some i ↔
    w.active = true ∧ w.sources.get p = true ∧ w.kinds.has k = true ∧ i.val = max w.lower.val low ∧
      i.val ≤ w.upper.val ∧ i.val ≤ high := by
  unfold meets lampOf?
  simp only [Option.ite_none_right_eq_some, Option.dite_none_right_eq_some, Option.some.injEq, Bool.and_eq_true,
    decide_eq_true_eq, Fin.ext_iff]
  constructor
  · rintro ⟨⟨⟨⟨active, source⟩, kind⟩, fits⟩, -, same⟩
    exact ⟨active, source, kind, same.symm, by omega, by omega⟩
  · rintro ⟨active, source, kind, same, upper, below⟩
    exact ⟨⟨⟨⟨active, source⟩, kind⟩, by omega⟩, by omega, same.symm⟩

/-- A BLOCK window among those matched refuses the command, naming the lowest-numbered one (R143). -/
theorem State.watched_blocked {first b : WindowNo × Lamp} {rest : List (WindowNo × Lamp)}
    (found : s.matches p k low high = first :: rest) (mem : b ∈ first :: rest) (blocks : s.windows[b.1].action = .block)
    (least : ∀ h ∈ first :: rest, s.windows[h.1].action = .block → b.1 ≤ h.1) (code scope : Byte)
    (apply : State × Answer) : s.watched p code scope k low high apply =
      (s.recordHit ⟨first.1, p, code, scope, k, first.2, true, s.frameCount⟩, ⟨.blocked, byte b.1.val :: bytes16 b.2.val⟩) := by
  have sorted := s.matches_sorted (p := p) (k := k) (low := low) (high := high)
  rw [found] at sorted
  have chosen : (first :: rest).find? (fun h => decide (s.windows[h.1].action = .block)) = some b :=
    find?_least sorted mem (decide_eq_true blocks) fun h hh action => least h hh (of_decide_eq_true action)
  unfold watched
  simp only [found, List.head?_cons, chosen]

/-- Windows that only record let the command apply (R143). -/
theorem State.watched_recorded {first : WindowNo × Lamp} {rest : List (WindowNo × Lamp)}
    (found : s.matches p k low high = first :: rest) (records : ∀ h ∈ first :: rest, s.windows[h.1].action = .record)
    (code scope : Byte) (apply : State × Answer) : s.watched p code scope k low high apply =
      (apply.1.recordHit ⟨first.1, p, code, scope, k, first.2, false, s.frameCount⟩, apply.2) := by
  have none : (first :: rest).find? (fun h => decide (s.windows[h.1].action = .block)) = none :=
    List.find?_eq_none.2 fun h hh => by rw [records h hh]; decide
  unfold watched
  simp only [found, List.head?_cons, none]

/-- The watch check of a command that no BLOCK window matches, as the statements say it. -/
theorem State.watched_passes {t : State} (windows : t.windows = s.windows) (frames : t.frameCount = s.frameCount)
    (passes : s.passes p k low high) (code scope : Byte) (ans : Answer) :
    s.watched p code scope k low high (t, ans) = (t.hitRecorded p code scope k low high, ans) := by
  have same : t.matches p k low high = s.matches p k low high := by
    unfold State.matches
    rw [windows]
  unfold hitRecorded
  rw [same]
  cases found : s.matches p k low high with
  | nil => exact watched_unmatched code scope _ found
  | cons first rest =>
    rw [watched_recorded found fun h hh => passes h (by rw [found]; exact hh), frames]
    rfl

end watch

/-! ### How a taking of named lamps ends -/

section taking
variable {c : Instr} {s : State} {p : Port} {cmd : Command} {α : Type} {parse : List Byte → Option α}
  {zone : State → α → Option ZoneNo} {judge : State → α → State × Answer} {a : α}

theorem IsTaking.ends (taking : IsTaking c p cmd parse zone judge) (taken : s.takes p cmd = true)
    (read : parse cmd.payload = some a) {x : State × Answer} (judged : judge ((s.land c.upsets).takeHead p) a = x) :
    exec c s = .next (x.1.conclude p cmd (s.attributedZone cmd.code cmd.payload) x.2) := by
  rw [taking.runs, State.executes_judged _ _ _ taken read, taking.zone a read, State.taken_attributedZone, judged]

theorem IsTaking.refusedWith (taking : IsTaking c p cmd parse zone judge) (taken : s.takes p cmd = true)
    (read : parse cmd.payload = some a) {ans : Answer}
    (judged : judge ((s.land c.upsets).takeHead p) a = (s.judgedIn p c, ans)) : c.refusedWith s p cmd ans :=
  taking.ends taken read judged

/-- A command that passes its other checks and the watch check is applied, and recorded if a window matched. -/
theorem IsTaking.applied (taking : IsTaking c p cmd parse zone judge) (taken : s.takes p cmd = true)
    (read : parse cmd.payload = some a) {t : State} {ans : Answer} {scope : Byte} {k : WatchKind} {low high : Nat}
    (judged : judge ((s.land c.upsets).takeHead p) a = (s.judgedIn p c).watched p cmd.code scope k low high (t, ans))
    (windows : t.windows = s.windows) (frames : t.frameCount = s.frameCount)
    (passes : (s.judgedIn p c).passes p k low high) :
    exec c s = .next ((t.hitRecorded p cmd.code scope k low high).conclude p cmd
      (s.attributedZone cmd.code cmd.payload) ans) := by
  refine taking.ends taken read (judged.trans (State.watched_passes ?_ ?_ passes cmd.code scope ans))
  · rw [windows, State.judgedIn_windows]
  · rw [frames, State.judgedIn_frameCount]

/-- A command that passes its other checks and matches a BLOCK window is refused BLOCKED. -/
theorem IsTaking.blocked (taking : IsTaking c p cmd parse zone judge) (taken : s.takes p cmd = true)
    (read : parse cmd.payload = some a) {apply : State × Answer} {scope : Byte} {k : WatchKind} {low high : Nat}
    (judged : judge ((s.land c.upsets).takeHead p) a = (s.judgedIn p c).watched p cmd.code scope k low high apply) :
    blocked c s p cmd scope k low high := by
  intro first rest found b mem blocks least
  have windows := s.judgedIn_windows p c
  have refused := State.watched_blocked found mem (by rw [windows]; exact blocks)
    (fun h hh action => least h hh (by rw [windows] at action; exact action)) cmd.code scope apply
  rw [State.judgedIn_frameCount] at refused
  exact taking.ends taken read (judged.trans refused)

end taking

/-! ### The checks of a batch (R13, R29, R65) -/

theorem Batch.ok_iff (b : Batch) (max : Nat) :
    b.ok max = true ↔ 1 ≤ b.count ∧ b.count ≤ max ∧ b.first + b.count ≤ 4096 := by
  simp only [ok, Bool.and_eq_true, decide_eq_true_eq]
  unfold Batch.last
  omega

theorem telemetry_or {p : Port} (h : p ≠ .d) (o : Option Answer) : (telemetryOnly p).or o = o := by
  rw [telemetryOnly_of_ne h, Option.none_or]

theorem batchRange_or {first count max : Nat} (ok : 1 ≤ count ∧ count ≤ max ∧ first + count ≤ 4096)
    (o : Option Answer) : (batchRange ⟨first, count⟩ max).or o = o := by
  rw [batchRange, if_pos ((Batch.ok_iff _ max).2 ok), Option.none_or]

theorem batchRange_bad {first count max : Nat} (bad : ¬ (1 ≤ count ∧ count ≤ max ∧ first + count ≤ 4096))
    (o : Option Answer) : (batchRange ⟨first, count⟩ max).or o = some ⟨.range, bytes16 first⟩ := by
  rw [batchRange, if_neg (mt (Batch.ok_iff _ max).1 bad), Option.some_or]

theorem lampsFrom_sorted (first count : Nat) : (lampsFrom first count).Pairwise fun x y => x.val < y.val := by
  rw [lampsFrom_eq]
  exact ((List.pairwise_lt_finRange 4096).drop).take

/-- The first lamp of a batch that meets a condition. -/
theorem find?_lampsFrom {first count : Nat} {f : Lamp → Bool} {i : Lamp} (mem : i ∈ lampsFrom first count)
    (here : f i = true) (least : ∀ k : Lamp, first ≤ k.val → k.val < i.val → f k = false) :
    (lampsFrom first count).find? f = some i := by
  refine find?_least (key := Fin.val) (lampsFrom_sorted first count) mem here fun k mem met => ?_
  by_contra below
  have := least k ((mem_lampsFrom first count k).1 mem).1 (Nat.not_le.1 below)
  rw [met] at this
  cases this

theorem State.notOwner_none {s : State} {p : Port} {lamps : List Lamp} (owns : ∀ i ∈ lamps, s.mayWrite p i = true) :
    s.notOwner p lamps = none := by
  rw [notOwner, List.find?_eq_none.2 fun i mem => by rw [owns i mem]; decide]
  rfl

theorem State.notAlarm_none {s : State} {lamps : List Lamp} (capable : ∀ i ∈ lamps, s.lamps[i].attrs.alarmCapable = true) :
    s.notAlarm lamps = none := by
  rw [notAlarm, List.find?_eq_none.2 fun i mem => by rw [capable i mem]; decide]
  rfl

theorem badValue_none {α β : Type} {b : Batch} {values : List α} {read : α → Option β}
    (good : ∀ v ∈ values, (read v).isSome = true) : badValue b values read = none := by
  rw [badValue, List.findIdx?_eq_none_iff.2 fun v mem => by rw [← Option.not_isSome, good v mem]; rfl]
  rfl

theorem badValue_some {α β : Type} {b : Batch} {values : List α} {read : α → Option β} {k : Nat}
    (inside : k < values.length) (bad : read values[k] = none)
    (least : ∀ j (h : j < k), (read (values[j]'(h.trans inside))).isSome = true) :
    badValue b values read = some ⟨.range, bytes16 (b.first + k)⟩ := by
  rw [badValue, List.findIdx?_eq_some_iff_getElem.2 ⟨inside, by rw [bad]; rfl, fun j h => by
    rw [← Option.not_isSome, least j h]; decide⟩]
  rfl

/-! ### Values of a batch -/

theorem Aspect.ofCode?_code (a : Aspect) : Aspect.ofCode? a.code = some a := by cases a <;> rfl

theorem Aspect.ofCode?_none {b : Byte} (h : b.toNat > 3) : Aspect.ofCode? b = none := by
  have other : ∀ c : Byte, c.toNat ≤ 3 → b ≠ c := fun c hc same => by subst same; omega
  unfold ofCode?
  rw [if_neg (other _ (by decide)), if_neg (other _ (by decide)), if_neg (other _ (by decide)), if_neg (other _ (by decide))]

theorem Aspect.ofCode?_isSome {b : Byte} (h : b.toNat ≤ 3) : (Aspect.ofCode? b).isSome = true := by
  obtain ⟨a, code⟩ : ∃ a : Aspect, b = a.code := by
    have : b.toNat = 0 ∨ b.toNat = 1 ∨ b.toNat = 2 ∨ b.toNat = 3 := by omega
    rcases this with h | h | h | h
    · exact ⟨.dark, BitVec.eq_of_toNat_eq h⟩
    · exact ⟨.lit, BitVec.eq_of_toNat_eq h⟩
    · exact ⟨.slow, BitVec.eq_of_toNat_eq h⟩
    · exact ⟨.fast, BitVec.eq_of_toNat_eq h⟩
  rw [code, ofCode?_code]
  rfl

theorem filterMap_aspects (aspects : List Aspect) : (aspects.map Aspect.code).filterMap Aspect.ofCode? = aspects := by
  rw [List.filterMap_map]
  exact (List.filterMap_congr fun a _ => Aspect.ofCode?_code a).trans (List.filterMap_some)

/-- A lamp's attributes as SET ATTRIBUTES sends them. -/
def Attributes.quad (a : Attributes) : Byte × Byte × Byte × Byte :=
  (flagByte a.alarmCapable, a.hornClass.code, byte a.dimGroup.val, flagByte a.supervised)

theorem attributesOfQuad?_quad (a : Attributes) : attributesOfQuad? a.quad = some a := by
  obtain ⟨capable, horn, group, supervised⟩ := a
  have bound := group.isLt
  have value : (byte group.val).toNat = group.val := byte_toNat (by omega)
  have flag (b : Bool) : flagOf? (flagByte b) = some b := by cases b <;> rfl
  have cls : HornClass.ofCode? horn.code = some horn := by cases horn <;> rfl
  simp only [attributesOfQuad?, attributesOf?, Attributes.quad, flag, cls, value, bound, dif_pos]

theorem quads_flatMap (given : List Attributes) : quads (given.flatMap fun a =>
    [flagByte a.alarmCapable, a.hornClass.code, byte a.dimGroup.val, flagByte a.supervised]) =
      given.map Attributes.quad := by
  induction given with
  | nil => rfl
  | cons a as ih =>
    rw [List.flatMap_cons, List.map_cons, ← ih]
    rfl

theorem filterMap_attributes (given : List Attributes) :
    (given.map Attributes.quad).filterMap attributesOfQuad? = given := by
  rw [List.filterMap_map]
  exact (List.filterMap_congr fun a _ => attributesOfQuad?_quad a).trans (List.filterMap_some)

theorem quads_eq (n : Nat) {bytes : List Byte} (length : bytes.length = 4 * n) : quads bytes = (List.range n).map fun k =>
    (bytes.getD (4 * k) 0, bytes.getD (4 * k + 1) 0, bytes.getD (4 * k + 2) 0, bytes.getD (4 * k + 3) 0) := by
  induction n generalizing bytes with
  | zero => rw [List.length_eq_zero_iff.1 length]; rfl
  | succ n ih =>
    match bytes, length with
    | a :: b :: c :: d :: rest, length =>
      have rest_length : rest.length = 4 * n := by
        simp only [List.length_cons] at length
        omega
      rw [quads, ih rest_length, List.range_succ_eq_map, List.map_cons, List.map_map]
      rfl

theorem flagOf?_isSome (b : Byte) : (flagOf? b).isSome = true ↔ b.toNat ≤ 1 := by
  have values : b = 0x01 ∨ b = 0x00 ↔ b.toNat ≤ 1 := by
    rw [← BitVec.toNat_inj, ← BitVec.toNat_inj]
    show b.toNat = 1 ∨ b.toNat = 0 ↔ _
    omega
  rw [← values, flagOf?]
  by_cases one : b = 0x01
  · rw [if_pos one]; exact ⟨fun _ => .inl one, fun _ => rfl⟩
  · rw [if_neg one]
    by_cases zero : b = 0x00
    · rw [if_pos zero]; exact ⟨fun _ => .inr zero, fun _ => rfl⟩
    · rw [if_neg zero]; exact ⟨fun h => (by cases h), fun h => (h.elim one zero).elim⟩

theorem HornClass.ofCode?_isSome (b : Byte) : (HornClass.ofCode? b).isSome = true ↔ b.toNat ≤ 1 := by
  have flag : (ofCode? b).isSome = (flagOf? b).isSome := by
    unfold ofCode? flagOf?
    by_cases zero : b = 0x00
    · subst zero; rfl
    · rw [if_neg zero, if_neg zero]
      by_cases one : b = 0x01
      · rw [if_pos one, if_pos one]; rfl
      · rw [if_neg one, if_neg one]; rfl
  rw [flag, flagOf?_isSome]

theorem attributesOfQuad?_isSome (q : Byte × Byte × Byte × Byte) : (attributesOfQuad? q).isSome = true ↔
    ¬ (q.1.toNat > 1 ∨ q.2.1.toNat > 1 ∨ q.2.2.1.toNat > 7 ∨ q.2.2.2.toNat > 1) := by
  obtain ⟨capable, horn, group, supervised⟩ := q
  have fields : (attributesOfQuad? (capable, horn, group, supervised)).isSome = true ↔
      (flagOf? capable).isSome = true ∧ (HornClass.ofCode? horn).isSome = true ∧ group.toNat < 8 ∧
        (flagOf? supervised).isSome = true := by
    simp only [attributesOfQuad?, attributesOf?]
    cases flagOf? capable <;> cases HornClass.ofCode? horn <;> cases flagOf? supervised <;> simp
  rw [fields, flagOf?_isSome, flagOf?_isSome, HornClass.ofCode?_isSome]
  simp only
  omega

end Sys2Proof.Machine
end

section
/-! SUPPORT. The commands on the image and on alarms up to their watch check (1.4, 4.2, 4.3): how each passes its other
checks, and how it is refused. -/

namespace Sys2Proof.Machine

/-! ### Batches -/

theorem State.zoneOfFirst_some (s : State) {b : Batch} (inside : b.first < 4096) : s.zoneOfFirst b = s.zoneOf b.first := by
  rw [zoneOfFirst_eq, if_pos inside]

theorem batchReply (hi lo n : Byte) : bytes16 (number16 hi lo) ++ [byte n.toNat] = [hi, lo, n] := by
  rw [bytes16_number16, byte_self]
  rfl

theorem State.notOwner_some {s : State} {p : Port} {first count : Nat} {i : Lamp} (mem : i ∈ lampsFrom first count)
    (foreign : ¬ s.mayWrite p i = true)
    (least : ∀ k : Lamp, first ≤ k.val → k.val < i.val → s.mayWrite p k = true) :
    s.notOwner p (lampsFrom first count) = some ⟨.notOwner, bytes16 i.val⟩ := by
  have found := find?_lampsFrom (f := fun k => !s.mayWrite p k) mem (by rw [eq_false_of_ne_true foreign]; rfl)
    fun k from_ below => by rw [least k from_ below]; rfl
  rw [notOwner, found]
  rfl

theorem State.notAlarm_some {s : State} {first count : Nat} {i : Lamp} (mem : i ∈ lampsFrom first count)
    (incapable : ¬ s.lamps[i].attrs.alarmCapable = true)
    (least : ∀ k : Lamp, first ≤ k.val → k.val < i.val → s.lamps[k].attrs.alarmCapable = true) :
    s.notAlarm (lampsFrom first count) = some ⟨.notAlarm, bytes16 i.val⟩ := by
  have found := find?_lampsFrom (f := fun k => !s.lamps[k].attrs.alarmCapable) mem
    (by rw [eq_false_of_ne_true incapable]; rfl) fun k from_ below => by rw [least k from_ below]; rfl
  rw [notAlarm, found]
  rfl

/-- The batch of a statement: a count in range, of lamps that exist. -/
def InRange (hi lo n : Byte) (most : Nat) : Prop :=
  1 ≤ n.toNat ∧ n.toNat ≤ most ∧ number16 hi lo + n.toNat ≤ 4096

section
variable {s : State} {p : Port} {tag hi lo n : Byte} {upsets : List Upset}

/-! ### WRITE ASPECTS -/

theorem parseWriteAspects_some {rest : List Byte} (length : rest.length = n.toNat) :
    parseWriteAspects (hi :: lo :: n :: rest) = some (⟨number16 hi lo, n.toNat⟩, rest) := if_pos length

/-- WRITE ASPECTS in the state in which it is judged. -/
theorem judgeWriteAspects_eq {rest : List Byte} (length : rest.length = n.toNat) (telemetry : p ≠ .d) :
    let r := s.judgedIn p (.writeAspects p tag (hi :: lo :: n :: rest) upsets)
    judgeWriteAspects p ((s.land upsets).takeHead p) (⟨number16 hi lo, n.toNat⟩, rest) =
      r.unless ((batchRange ⟨number16 hi lo, n.toNat⟩ 64).or
          ((badValue ⟨number16 hi lo, n.toNat⟩ rest Aspect.ofCode?).or (r.notOwner p (lampsFrom (number16 hi lo) n.toNat))))
        (r.watched p 0x01 0x00 .aspect (number16 hi lo) (number16 hi lo + n.toNat - 1)
          (((lampsFrom (number16 hi lo) n.toNat).zip (rest.filterMap Aspect.ofCode?)).foldl State.writeAspect r,
            .done [hi, lo, n])) := by
  intro r
  have reads : ((s.land upsets).takeHead p).checkLamps (Batch.lamps ⟨number16 hi lo, n.toNat⟩) = r := by
    show _ = State.checkLamps _ ((parseWriteAspects (hi :: lo :: n :: rest)).elim [] fun a => a.1.lamps)
    rw [parseWriteAspects_some length]
    rfl
  unfold judgeWriteAspects
  dsimp only
  rw [telemetry_or telemetry, batchReply, reads]
  rfl

/-- WRITE ASPECTS that reaches the watch check. -/
theorem judgeWriteAspects_watched (aspects : List Aspect) (length : n.toNat = aspects.length) (telemetry : p ≠ .d)
    (range : InRange hi lo n 64) (owns : ∀ i ∈ lampsFrom (number16 hi lo) n.toNat, s.mayWrite p i = true) :
    let r := s.judgedIn p (.writeAspects p tag (hi :: lo :: n :: aspects.map Aspect.code) upsets)
    judgeWriteAspects p ((s.land upsets).takeHead p) (⟨number16 hi lo, n.toNat⟩, aspects.map Aspect.code) =
      r.watched p 0x01 0x00 .aspect (number16 hi lo) (number16 hi lo + n.toNat - 1)
        (((lampsFrom (number16 hi lo) n.toNat).zip aspects).foldl State.writeAspect r, .done [hi, lo, n]) := by
  intro r
  have good : ∀ v ∈ aspects.map Aspect.code, (Aspect.ofCode? v).isSome = true := fun v mem => by
    obtain ⟨a, -, rfl⟩ := List.mem_map.1 mem
    rw [Aspect.ofCode?_code]
    rfl
  have owned : r.notOwner p (lampsFrom (number16 hi lo) n.toNat) = none :=
    State.notOwner_none fun i mem => by rw [(sameZones_judgedIn s p _).mayWrite]; exact owns i mem
  rw [judgeWriteAspects_eq (tag := tag) (by rw [List.length_map, length]) telemetry, batchRange_or range,
    badValue_none good, Option.none_or, filterMap_aspects]
  exact congrArg (State.unless _ · _) owned

/-! ### SET ATTRIBUTES -/

theorem parseSetAttributes_some {rest : List Byte} (length : rest.length = 4 * n.toNat) :
    parseSetAttributes (hi :: lo :: n :: rest) = some (⟨number16 hi lo, n.toNat⟩, quads rest) := if_pos length

/-- SET ATTRIBUTES in the state in which it is judged. -/
theorem judgeSetAttributes_eq {rest : List Byte} (length : rest.length = 4 * n.toNat) (telemetry : p ≠ .d) :
    let r := s.judgedIn p (.setAttributes p tag (hi :: lo :: n :: rest) upsets)
    judgeSetAttributes p ((s.land upsets).takeHead p) (⟨number16 hi lo, n.toNat⟩, quads rest) =
      r.unless ((batchRange ⟨number16 hi lo, n.toNat⟩ 16).or
          ((badValue ⟨number16 hi lo, n.toNat⟩ (quads rest) attributesOfQuad?).or
            (r.notOwner p (lampsFrom (number16 hi lo) n.toNat))))
        (r.watched p 0x02 0x00 .attributes (number16 hi lo) (number16 hi lo + n.toNat - 1)
          ((((lampsFrom (number16 hi lo) n.toNat).zip ((quads rest).filterMap attributesOfQuad?)).foldl
            State.giveAttributes r).settleHorn false, .done [hi, lo, n])) := by
  intro r
  have reads : ((s.land upsets).takeHead p).checkLamps (Batch.lamps ⟨number16 hi lo, n.toNat⟩) = r := by
    show _ = State.checkLamps _ ((parseSetAttributes (hi :: lo :: n :: rest)).elim [] fun a => a.1.lamps)
    rw [parseSetAttributes_some length]
    rfl
  unfold judgeSetAttributes
  dsimp only
  rw [telemetry_or telemetry, batchReply, reads]
  rfl

theorem attributeBytes_length (given : List Attributes) : (given.flatMap fun a =>
    [flagByte a.alarmCapable, a.hornClass.code, byte a.dimGroup.val, flagByte a.supervised]).length =
      4 * given.length := by
  induction given with
  | nil => rfl
  | cons a as ih =>
    rw [List.flatMap_cons, List.length_append, ih]
    simp only [List.length_cons, List.length_nil]
    omega

/-- SET ATTRIBUTES that reaches the watch check. -/
theorem judgeSetAttributes_watched (given : List Attributes) (length : n.toNat = given.length) (telemetry : p ≠ .d)
    (range : InRange hi lo n 16) (owns : ∀ i ∈ lampsFrom (number16 hi lo) n.toNat, s.mayWrite p i = true) :
    let bytes := given.flatMap fun a =>
      [flagByte a.alarmCapable, a.hornClass.code, byte a.dimGroup.val, flagByte a.supervised]
    let r := s.judgedIn p (.setAttributes p tag (hi :: lo :: n :: bytes) upsets)
    judgeSetAttributes p ((s.land upsets).takeHead p) (⟨number16 hi lo, n.toNat⟩, quads bytes) =
      r.watched p 0x02 0x00 .attributes (number16 hi lo) (number16 hi lo + n.toNat - 1)
        ((((lampsFrom (number16 hi lo) n.toNat).zip given).foldl State.giveAttributes r).settleHorn false,
          .done [hi, lo, n]) := by
  intro bytes r
  have good : ∀ v ∈ given.map Attributes.quad, (attributesOfQuad? v).isSome = true := fun v mem => by
    obtain ⟨a, -, rfl⟩ := List.mem_map.1 mem
    rw [attributesOfQuad?_quad]
    rfl
  have owned : r.notOwner p (lampsFrom (number16 hi lo) n.toNat) = none :=
    State.notOwner_none fun i mem => by rw [(sameZones_judgedIn s p _).mayWrite]; exact owns i mem
  rw [judgeSetAttributes_eq (tag := tag) (by rw [attributeBytes_length, length]) telemetry, batchRange_or range,
    quads_flatMap, badValue_none good, Option.none_or, filterMap_attributes]
  exact congrArg (State.unless _ · _) owned

/-! ### RAISE ALARM and CLEAR ALARM -/

/-- RAISE ALARM and CLEAR ALARM have their checks in common (R65). -/
theorem exists_alarmTaking {c : Instr} {cmd : Command}
    (h : (c = Instr.raiseAlarm p tag [hi, lo, n] upsets ∧ cmd = ⟨tag, 0x30, [hi, lo, n]⟩) ∨
      (c = Instr.clearAlarm p tag [hi, lo, n] upsets ∧ cmd = ⟨tag, 0x31, [hi, lo, n]⟩)) :
    ∃ judge apply, IsTaking c p cmd parseBatch State.zoneOfFirst judge ∧
      parseBatch cmd.payload = some ⟨number16 hi lo, n.toNat⟩ ∧
      judge ((s.land c.upsets).takeHead p) ⟨number16 hi lo, n.toNat⟩ =
        (s.judgedIn p c).unless ((s.judgedIn p c).alarmRefusal p ⟨number16 hi lo, n.toNat⟩)
          ((s.judgedIn p c).watched p cmd.code 0x00 .alarm (number16 hi lo) (number16 hi lo + n.toNat - 1) apply) := by
  rcases h with ⟨rfl, rfl⟩ | ⟨rfl, rfl⟩
  · exact ⟨_, _, isTaking_raiseAlarm p tag _ upsets, rfl, rfl⟩
  · exact ⟨_, _, isTaking_clearAlarm p tag _ upsets, rfl, rfl⟩

theorem State.alarmRefusal_none {r : State} (telemetry : p ≠ .d) (range : InRange hi lo n 64)
    (owns : ∀ i ∈ lampsFrom (number16 hi lo) n.toNat, r.mayWrite p i = true)
    (capable : ∀ i ∈ lampsFrom (number16 hi lo) n.toNat, r.lamps[i].attrs.alarmCapable = true) :
    r.alarmRefusal p ⟨number16 hi lo, n.toNat⟩ = none := by
  rw [alarmRefusal, telemetry_or telemetry, batchRange_or range]
  show (r.notOwner p (lampsFrom _ _)).or (r.notAlarm (lampsFrom _ _)) = none
  rw [notOwner_none owns, Option.none_or, notAlarm_none capable]

/-! ### ACKNOWLEDGE -/

theorem State.judgedIn_acknowledge (s : State) {payload : List Byte} {a : AckScope}
    (read : parseAcknowledge payload = some a) : s.judgedIn p (.acknowledge p tag payload upsets) =
      ((s.land upsets).takeHead p).checkLamps (((s.land upsets).takeHead p).ackLamps a) := by
  show State.checkLamps _ ((parseAcknowledge payload).elim [] _) = _
  rw [read]
  rfl

/-- ACKNOWLEDGE of scope LAMPS past its checks. -/
theorem judgeAcknowledge_lamps (range : InRange hi lo n 64)
    (owns : p = .d ∨ ∀ i ∈ lampsFrom (number16 hi lo) n.toNat, s.mayWrite p i = true) :
    judgeAcknowledge p ((s.land upsets).takeHead p) (.lamps ⟨number16 hi lo, n.toNat⟩) =
      (s.judgedIn p (.acknowledge p tag [0x01, hi, lo, n] upsets)).acknowledged p .lamps [hi, lo, n]
        (lampsFrom (number16 hi lo) n.toNat) (number16 hi lo) (number16 hi lo + n.toNat - 1) := by
  have owned : (if p = .d then none else
      (s.judgedIn p (.acknowledge p tag [0x01, hi, lo, n] upsets)).notOwner p (lampsFrom (number16 hi lo) n.toNat)) =
      none := by
    split
    · rfl
    · rename_i telemetry
      exact State.notOwner_none fun i mem => by
        rw [(sameZones_judgedIn s p _).mayWrite]; exact (owns.resolve_left telemetry) i mem
  show State.unless _ ((batchRange ⟨number16 hi lo, n.toNat⟩ 64).or _) _ = _
  rw [batchRange_or range]
  refine (congrArg (State.unless _ · _) owned).trans ?_
  exact congrArg (State.acknowledged _ p .lamps · _ _ _) (batchReply hi lo n)

/-- ACKNOWLEDGE of scope ZONE past its checks. -/
theorem judgeAcknowledge_zone {b : Byte} {z : ZoneNo} (number : z.val = b.toNat) (enabled : s.zones[z].enabled = true)
    (owns : p = .d ∨ s.zones[z].owner = some p) :
    judgeAcknowledge p ((s.land upsets).takeHead p) (.zone b) =
      (s.judgedIn p (.acknowledge p tag [0x02, b] upsets)).acknowledged p .zone [b]
        (lampsFrom s.zones[z].base s.zones[z].size) s.zones[z].base (s.zones[z].base + s.zones[z].size - 1) := by
  have zones := sameZones_judgedIn s p (.acknowledge p tag [0x02, b] upsets)
  rw [← zones.enabled] at enabled
  rw [← zones.owner] at owns
  rw [← zones.base, ← zones.size]
  have reads : s.judgedIn p (.acknowledge p tag [0x02, b] upsets) =
    ((s.land upsets).takeHead p).checkLamps (((s.land upsets).takeHead p).ackLamps (.zone b)) := rfl
  rw [reads] at enabled owns ⊢
  unfold judgeAcknowledge
  simp only [zoneNoOf?_some number, enabled, Bool.not_true, Bool.false_eq_true, if_false]
  refine if_neg fun foreign => ?_
  rcases owns with desk | own
  · exact foreign.1 desk
  · exact foreign.2 own

/-- ACKNOWLEDGE of scope ALL, which has no checks before the watch check. -/
theorem judgeAcknowledge_all : judgeAcknowledge .d ((s.land upsets).takeHead .d) .all =
    (s.judgedIn .d (.acknowledge .d tag [0x03] upsets)).acknowledged .d .all [] (lampsFrom 0 4096) 0 4095 := by
  have reads : s.judgedIn .d (.acknowledge .d tag [0x03] upsets) =
      ((s.land upsets).takeHead .d).checkLamps (((s.land upsets).takeHead .d).ackLamps .all) :=
    s.judgedIn_acknowledge rfl
  unfold judgeAcknowledge
  dsimp only
  rw [State.unless_desk_d, reads]

/-! ### FORCE LAMP and UNFORCE -/

theorem State.judgedIn_unforce (s : State) {payload : List Byte} {k : Nat} (read : parseUnforce payload = some k) :
    s.judgedIn p (.unforce p tag payload upsets) = ((s.land upsets).takeHead p).checkLamps (unforceLamps k) := by
  show State.checkLamps _ ((parseUnforce payload).elim [] unforceLamps) = _
  rw [read]
  rfl

theorem judgeForceLamp_some {u : State} {k : Nat} {b : Byte} {i : Lamp} {o : Aspect} (lamp : lampOf? k = some i)
    (aspect : Aspect.ofCode? b = some o) : judgeForceLamp .d u (k, b) =
      (u.checkLamps (lampOf? k).toList).watched .d 0x03 0x00 .override k k
        ((u.checkLamps (lampOf? k).toList).setOverride i (some o), .done (bytes16 k)) := by
  unfold judgeForceLamp
  rw [State.unless_desk_d]
  dsimp only
  rw [lamp, aspect]

theorem judgeUnforce_some {u : State} {k : Nat} {i : Lamp} (one : k ≠ absentLamp) (lamp : lampOf? k = some i) :
    judgeUnforce .d u k = (u.checkLamps (unforceLamps k)).watched .d 0x04 0x00 .override k k
      ((u.checkLamps (unforceLamps k)).setOverride i none, .done (bytes16 k)) := by
  unfold judgeUnforce
  rw [State.unless_desk_d, if_neg one, lamp]

theorem judgeForceLamp_watched {i : Lamp} (number : number16 hi lo = i.val) (o : Aspect) :
    let r := s.judgedIn .d (.forceLamp .d tag [hi, lo, o.code] upsets)
    judgeForceLamp .d ((s.land upsets).takeHead .d) (number16 hi lo, o.code) =
      r.watched .d 0x03 0x00 .override i.val i.val
        (r.setLamp i { r.lamps[i] with override := some o }, .done [hi, lo]) := by
  intro r
  rw [judgeForceLamp_some (lampOf?_some number) (Aspect.ofCode?_code o), bytes16_number16]
  exact congrArg (fun k => r.watched .d 0x03 0x00 .override k k _) number

theorem judgeUnforce_watched {i : Lamp} (number : number16 hi lo = i.val) :
    let r := s.judgedIn .d (.unforce .d tag [hi, lo] upsets)
    judgeUnforce .d ((s.land upsets).takeHead .d) (number16 hi lo) =
      r.watched .d 0x04 0x00 .override i.val i.val
        (r.setLamp i { r.lamps[i] with override := none }, .done [hi, lo]) := by
  intro r
  have one : number16 hi lo ≠ absentLamp := by
    rw [number]
    exact Nat.ne_of_lt (Nat.lt_trans i.isLt (by decide))
  rw [judgeUnforce_some one (lampOf?_some number), bytes16_number16]
  exact congrArg (fun k => r.watched .d 0x04 0x00 .override k k _) number

theorem parseUnforce_all : parseUnforce [0xFF, 0xFF] = some absentLamp :=
  congrArg some (show number16 0xFF 0xFF = absentLamp by decide)

/-- UNFORCE ALL. -/
theorem judgeUnforce_all {payload : List Byte} (read : parseUnforce payload = some absentLamp) :
    let r := s.judgedIn .d (.unforce .d tag payload upsets)
    judgeUnforce .d ((s.land upsets).takeHead .d) absentLamp = r.watched .d 0x04 0x00 .override 0 4095
      ({ r with lamps := bankMap (fun _ r => { r with override := none }) r.lamps }, .done [0xFF, 0xFF]) := by
  intro r
  have reads : r = ((s.land upsets).takeHead .d).checkLamps (unforceLamps absentLamp) := s.judgedIn_unforce read
  have all : bytes16 absentLamp = [0xFF, 0xFF] := by decide
  unfold judgeUnforce
  rw [State.unless_desk_d, if_pos rfl, reads, all]

end

/-! ### The watch check -/

/-- Settles O55: the check by what it matches, and each watched command by its way to the check. -/
theorem watchCheckBlocksOrRecords : Obligations.WatchCheckBlocksOrRecords := by
  refine ⟨fun s p k low high _ => ⟨fun n i => ?_, ?_, fun code scope apply => ?_⟩,
    fun s h => ⟨fun free => ?_, fun frozen => ?_⟩, fun s p tag hi lo n upsets => ?_⟩
  · rw [State.mem_matches, Window.meets_iff]
  · exact List.pairwise_map.2 State.matches_sorted
  · exact ⟨State.watched_unmatched code scope apply, fun first rest found =>
      ⟨fun records => State.watched_recorded found records code scope apply,
        fun b mem blocks least => State.watched_blocked found mem blocks least code scope apply⟩⟩
  · unfold State.recordHit
    rw [free]
  · unfold State.recordHit
    split
    · exact absurd ‹_› frozen
    · rfl
  intro first last batch inRange owns
  refine ⟨fun aspects => ?_, fun given => ?_,
    fun c cmd alarm taken telemetry range own capable => ?_, fun taken range own => ?_, fun z number taken enabled own => ?_,
    fun taken => ?_, fun o taken inside => ?_, fun taken inside => ?_, fun taken => ?_⟩
  · intro payload taken telemetry length range own
    exact (isTaking_writeAspects p tag _ upsets).blocked taken (parseWriteAspects_some (by rw [List.length_map, length]))
      (judgeWriteAspects_watched aspects length telemetry range own)
  · intro payload taken telemetry length range own
    exact (isTaking_setAttributes p tag _ upsets).blocked taken
      (parseSetAttributes_some (by rw [attributeBytes_length, length]))
      (judgeSetAttributes_watched given length telemetry range own)
  · obtain ⟨judge, apply, taking, read, judged⟩ := exists_alarmTaking (s := s) alarm
    have passed := State.alarmRefusal_none telemetry range
      (fun i mem => by rw [(sameZones_judgedIn s p c).mayWrite]; exact own i mem) capable
    rw [passed, State.unless_none] at judged
    exact taking.blocked taken read judged
  · exact (isTaking_acknowledge p tag _ upsets).blocked taken rfl (judgeAcknowledge_lamps range own)
  · exact (isTaking_acknowledge p tag _ upsets).blocked taken rfl (judgeAcknowledge_zone number enabled own)
  · exact (isTaking_acknowledge .d tag _ upsets).blocked taken rfl judgeAcknowledge_all
  · exact (isTaking_forceLamp .d tag _ upsets).blocked taken rfl
      (judgeForceLamp_watched (i := ⟨first, Nat.lt_succ_of_le inside⟩) rfl o)
  · exact (isTaking_unforce .d tag _ upsets).blocked taken rfl
      (judgeUnforce_watched (i := ⟨first, Nat.lt_succ_of_le inside⟩) rfl)
  · exact (isTaking_unforce .d tag _ upsets).blocked taken parseUnforce_all (judgeUnforce_all parseUnforce_all)

/-! ### The refusals of batches (R13, R65) -/

/-- Settles O24. -/
theorem batchRefusalsNameTheirLamp : Obligations.BatchRefusalsNameTheirLamp := by
  intro s p tag hi lo n rest upsets telemetry first inRange owns firstWithout
  have owners (c : Instr) (i : Lamp) : (s.judgedIn p c).mayWrite p i = s.mayWrite p i :=
    (sameZones_judgedIn s p c).mayWrite p i
  have foreign (c : Instr) {i : Lamp} (h : firstWithout owns i) :
      (s.judgedIn p c).notOwner p (lampsFrom first n.toNat) = some ⟨.notOwner, bytes16 i.val⟩ := by
    obtain ⟨low, high, without, least⟩ := h
    exact State.notOwner_some ((mem_lampsFrom _ _ _).2 ⟨low, high⟩) (by rw [owners]; exact without)
      fun k from_ below => by rw [owners]; exact least k from_ below
  refine ⟨?_, ?_, fun c cmd alarm taken => ?_⟩
  · intro payload c taken length
    have refused {ans : Answer} (h : _ = some ans) : c.refusedWith s p ⟨tag, 0x01, payload⟩ ans :=
      (isTaking_writeAspects p tag payload upsets).refusedWith taken (parseWriteAspects_some length)
        ((judgeWriteAspects_eq length telemetry).trans (congrArg (State.unless _ · _) h))
    refine ⟨fun bad => refused ?_, fun range k inside bad least => refused ?_, fun range good i without => refused ?_⟩
    · rw [batchRange_bad bad, bytes16_number16]
    · have inside' : k < rest.length := by rw [length]; exact inside
      have value (j : Nat) (h : j < rest.length) : rest.getD j 0 = rest[j] := List.getD_eq_getElem _ _ h
      rw [batchRange_or range, badValue_some inside' (Aspect.ofCode?_none (by rw [← value k inside']; exact bad))
        fun j below => Aspect.ofCode?_isSome (by rw [← value j (below.trans inside')]; exact least j below)]
      rfl
    · rw [batchRange_or range, badValue_none fun v mem => Aspect.ofCode?_isSome (good v mem), Option.none_or,
        foreign _ without]
  · intro payload c bad taken length
    have refused {ans : Answer} (h : _ = some ans) : c.refusedWith s p ⟨tag, 0x02, payload⟩ ans :=
      (isTaking_setAttributes p tag payload upsets).refusedWith taken (parseSetAttributes_some length)
        ((judgeSetAttributes_eq length telemetry).trans (congrArg (State.unless _ · _) h))
    have values := quads_eq n.toNat length
    have count : (quads rest).length = n.toNat := by rw [values]; simp
    have good {j : Nat} (inside : j < (quads rest).length) :
        (attributesOfQuad? (quads rest)[j]).isSome = true ↔ ¬ bad j := by
      rw [attributesOfQuad?_isSome]
      simp only [values, List.getElem_map, List.getElem_range]
      exact Iff.rfl
    refine ⟨fun outside => refused ?_, fun range k inside bad least => refused ?_,
      fun range valid i without => refused ?_⟩
    · rw [batchRange_bad outside, bytes16_number16]
    · have inside' : k < (quads rest).length := by rw [count]; exact inside
      rw [batchRange_or range, badValue_some inside' (Option.not_isSome_iff_eq_none.1 fun h => (good inside').1 h bad)
        fun j below => (good (below.trans inside')).2 (least j below)]
      rfl
    · rw [batchRange_or range, badValue_none fun v mem => ?_, Option.none_or, foreign _ without]
      obtain ⟨j, inside, rfl⟩ := List.mem_iff_getElem.1 mem
      exact (good inside).2 (valid j (by rw [← count]; exact inside))
  · obtain ⟨judge, apply, taking, read, judged⟩ := exists_alarmTaking (s := s) alarm
    have refused {ans : Answer} (h : (s.judgedIn p c).alarmRefusal p ⟨first, n.toNat⟩ = some ans) :
        c.refusedWith s p cmd ans :=
      taking.refusedWith taken read (judged.trans (congrArg (State.unless _ · _) h))
    refine ⟨fun bad => refused ?_, fun range i without => refused ?_, fun range own i without => refused ?_⟩
    · rw [State.alarmRefusal, telemetry_or telemetry, batchRange_bad bad, bytes16_number16]
    · rw [State.alarmRefusal, telemetry_or telemetry, batchRange_or range]
      exact congrArg (Option.or · _) (foreign c without)
    · obtain ⟨low, high, incapable, least⟩ := without
      have owned : (s.judgedIn p c).notOwner p (lampsFrom first n.toNat) = none :=
        State.notOwner_none fun k mem => by
          rw [owners]; exact own k ((mem_lampsFrom _ _ _).1 mem).1 ((mem_lampsFrom _ _ _).1 mem).2
      rw [State.alarmRefusal, telemetry_or telemetry, batchRange_or range]
      show ((s.judgedIn p c).notOwner p (lampsFrom first n.toNat)).or
        ((s.judgedIn p c).notAlarm (lampsFrom first n.toNat)) = _
      rw [owned, Option.none_or, State.notAlarm_some ((mem_lampsFrom _ _ _).2 ⟨low, high⟩) incapable least]

end Sys2Proof.Machine
end

section
/-! SUPPORT. Operations applied to the lamps of a list, one after another: each deals with a record of its own, so that what
they come to can be told from the state before; and with it the commands on the image (1.4). -/

namespace Sys2Proof.Machine

/-! ### Lamps of a batch, with their values -/

theorem lampsFrom_length {first count : Nat} (fits : first + count ≤ 4096) : (lampsFrom first count).length = count := by
  rw [lampsFrom_eq, List.length_take, List.length_drop, List.length_finRange]
  omega

theorem lampsFrom_getElem {first count k : Nat} (h : k < (lampsFrom first count).length) :
    ((lampsFrom first count)[k]).val = first + k := by
  simp [lampsFrom_eq]

/-- The lamps of a batch paired with the values it gives them. -/
theorem zip_lampsFrom {α : Type} {first count : Nat} (fits : first + count ≤ 4096) {values : List α}
    (length : count = values.length) (absent : α) :
    (lampsFrom first count).zip values =
      (lampsFrom first count).map fun i => (i, values.getD (i.val - first) absent) := by
  have lamps := lampsFrom_length fits
  refine List.ext_getElem (by rw [List.length_zip, List.length_map, lamps]; omega) fun k h h' => ?_
  have inside : k < values.length := by rw [List.length_zip] at h; omega
  rw [List.getElem_zip, List.getElem_map, lampsFrom_getElem, Nat.add_sub_cancel_left, List.getD_eq_getElem _ _ inside]

/-- The lamps from a number on, with their places. -/
theorem zipIdx_lampsFrom (first count : Nat) :
    (lampsFrom first count).zipIdx = (lampsFrom first count).map fun i => (i, i.val - first) := by
  refine List.ext_getElem (by simp) fun k h h' => ?_
  rw [List.getElem_zipIdx, List.getElem_map, lampsFrom_getElem]
  congr 1
  omega

/-! ### Operations on lamps -/

/-- An operation on one lamp, in the states that meet a condition which it keeps: `g` is what it makes of the lamp's record,
and it leaves the other records. -/
structure Edits (P : State → Prop) (f : State → Lamp → State) (g : Lamp → LampRecord → LampRecord) : Prop where
  keeps  : ∀ s i, P s → P (f s i)
  record : ∀ s i k, P s → (f s i).lamps[k] = if k = i then g i s.lamps[i] else s.lamps[k]

section edits
variable {P : State → Prop} {f : State → Lamp → State} {g : Lamp → LampRecord → LampRecord}

theorem Edits.keeps_foldl (h : Edits P f g) (l : List Lamp) {s : State} (start : P s) : P (l.foldl f s) := by
  induction l generalizing s with
  | nil => exact start
  | cons i is ih => exact ih (h.keeps s i start)

/-- Each record of the list is dealt with once. -/
theorem Edits.foldl (h : Edits P f g) {l : List Lamp} (nodup : l.Nodup) {s : State} (start : P s) (k : Lamp) :
    (l.foldl f s).lamps[k] = if k ∈ l then g k s.lamps[k] else s.lamps[k] := by
  induction l generalizing s with
  | nil => simp
  | cons i is ih =>
    obtain ⟨fresh, nodup⟩ := List.nodup_cons.1 nodup
    rw [List.foldl_cons, ih nodup (h.keeps s i start), h.record s i k start]
    by_cases same : k = i
    · subst k; simp [fresh]
    · simp [same]

/-- What the operations make of any other part of the state is what they make of it with the records as they stood. -/
theorem Edits.foldl_part (h : Edits P f g) {α : Type} (part : State → α) (act : Lamp → LampRecord → α → α)
    (step : ∀ s i, P s → part (f s i) = act i s.lamps[i] (part s)) {l : List Lamp} (nodup : l.Nodup) {s : State}
    (start : P s) : part (l.foldl f s) = l.foldl (fun a i => act i s.lamps[i] a) (part s) := by
  induction l generalizing s with
  | nil => rfl
  | cons i is ih =>
    obtain ⟨fresh, nodup⟩ := List.nodup_cons.1 nodup
    rw [List.foldl_cons, List.foldl_cons, ih nodup (h.keeps s i start), step s i start]
    refine List.foldl_ext _ _ _ fun a k mem => ?_
    have other : k ≠ i := fun same => fresh (by rw [← same]; exact mem)
    rw [h.record s i k start, if_neg other]

end edits

/-- Doing one thing for each member that meets a condition. -/
theorem foldl_iterate {α β : Type} (g : α → α) (c : β → Bool) (l : List β) (a : α) :
    l.foldl (fun a x => if c x = true then g a else a) a = g^[l.countP c] a := by
  induction l generalizing a with
  | nil => rfl
  | cons x xs ih =>
    rw [List.foldl_cons, ih, List.countP_cons]
    split
    · rw [Function.iterate_succ_apply]
    · rfl

theorem SameZones.record {s t : State} (h : SameZones s t) (z : ZoneNo) :
    t.zones[z] = { s.zones[z] with unack := t.zones[z].unack, standing := t.zones[z].standing } := by
  obtain ⟨_, _, same⟩ := h z
  rw [same]

/-! ### WRITE ASPECTS, READ LAMPS and overrides -/

/-- WRITE ASPECTS changes records alone. -/
theorem edits_writeAspect (r : State) (new : Lamp → Aspect) : Edits (fun u => u = { r with lamps := u.lamps })
    (fun u i => u.writeAspect (i, new i)) fun i l => { l with telemetry := new i } where
  keeps u i h := by
    rw [h]
    rfl
  record u i k _ := Vector_set_fin _ _ _ _

/-- Settles O20. -/
theorem writeAspectsSetsTelemetry : Obligations.WriteAspectsSetsTelemetry := by
  intro s p tag hi lo n aspects upsets payload c first r taken telemetry length low high fits owns passes
  have taking := isTaking_writeAspects p tag payload upsets
  have read : parseWriteAspects payload = some (⟨first, n.toNat⟩, aspects.map Aspect.code) :=
    parseWriteAspects_some (by rw [List.length_map, length])
  have zone : s.attributedZone 0x01 payload = s.zoneOf first :=
    (taking.zone _ read s).symm.trans (s.zoneOfFirst_some (show first < 4096 by omega))
  have watched : judgeWriteAspects p ((s.land upsets).takeHead p) (⟨first, n.toNat⟩, aspects.map Aspect.code) =
      r.watched p 0x01 0x00 .aspect first (first + n.toNat - 1)
        (((lampsFrom first n.toNat).zip aspects).foldl State.writeAspect r, .done [hi, lo, n]) :=
    judgeWriteAspects_watched aspects length telemetry ⟨low, high, fits⟩
      fun i mem => owns i ((mem_lampsFrom _ _ _).1 mem).1 ((mem_lampsFrom _ _ _).1 mem).2
  rw [zip_lampsFrom fits length .dark, List.foldl_map] at watched
  have edits := edits_writeAspect r fun i => aspects.getD (i.val - first) .dark
  have frame := edits.keeps_foldl (lampsFrom first n.toNat) (s := r) rfl
  generalize state : (lampsFrom first n.toNat).foldl _ r = t at frame
  refine ⟨t.lamps, fun i => ?_, ?_⟩
  · rw [← state, edits.foldl (lampsFrom_nodup _ _) rfl]
    simp only [mem_lampsFrom]
  · have applied := taking.applied taken read (watched.trans (by rw [state])) (t := t)
      (by rw [frame]; exact s.judgedIn_windows p c) (by rw [frame]; exact s.judgedIn_frameCount p c) passes
    rw [zone] at applied
    rw [← frame]
    exact applied

theorem judgeForceLamp_none {u : State} {k : Nat} {b : Byte} (bad : lampOf? k = none ∨ Aspect.ofCode? b = none) :
    judgeForceLamp .d u (k, b) = (u.checkLamps (lampOf? k).toList, ⟨.range, []⟩) := by
  unfold judgeForceLamp
  rw [State.unless_desk_d]
  dsimp only
  rcases bad with lamp | aspect
  · rw [lamp]
  · rw [aspect]
    cases lampOf? k <;> rfl

theorem judgeUnforce_none {u : State} {k : Nat} (one : k ≠ absentLamp) (lamp : lampOf? k = none) :
    judgeUnforce .d u k = (u.checkLamps (unforceLamps k), ⟨.range, []⟩) := by
  unfold judgeUnforce
  rw [State.unless_desk_d, if_neg one, lamp]

theorem exec_unforceAll {s : State} {tag : Byte} {payload : List Byte} {upsets : List Upset}
    (read : parseUnforce payload = some absentLamp) (taken : s.takes .d ⟨tag, 0x04, payload⟩ = true)
    (passes : (s.judgedIn .d (.unforce .d tag payload upsets)).passes .d .override 0 4095) :
    ∃ L : Vector LampRecord 4096,
      (∀ i : Lamp, L[i] = { (s.judgedIn .d (.unforce .d tag payload upsets)).lamps[i] with override := none }) ∧
      exec (.unforce .d tag payload upsets) s =
        .next ((State.hitRecorded { s.judgedIn .d (.unforce .d tag payload upsets) with lamps := L }
          .d 0x04 0x00 .override 0 4095).conclude .d ⟨tag, 0x04, payload⟩ none (.done [0xFF, 0xFF])) := by
  have taking := isTaking_unforce .d tag payload upsets
  have zone : s.attributedZone 0x04 payload = none :=
    (taking.zone absentLamp read s).symm.trans ((s.zoneOfFirst_eq _).trans (if_neg (by decide)))
  have applied := taking.applied taken read (judgeUnforce_all read) (s.judgedIn_windows _ _) (s.judgedIn_frameCount _ _) passes
  rw [zone] at applied
  refine ⟨_, fun i => ?_, applied⟩
  rw [Fin.getElem_fin, bankMap_getElem]
  rfl

/-- Settles O22. -/
theorem overridesAreSetAndTakenAway : Obligations.OverridesAreSetAndTakenAway := by
  refine ⟨?_, ?_, ?_, ?_, ?_⟩
  · intro s tag hi lo i o upsets number c r taken passes
    have taking := isTaking_forceLamp .d tag [hi, lo, o.code] upsets
    have zone : s.attributedZone 0x03 [hi, lo, o.code] = s.zoneOf i.val :=
      (taking.zone _ rfl s).symm.trans ((s.zoneOfFirst_some (by rw [number]; exact i.isLt)).trans (by rw [number]))
    have applied := taking.applied taken rfl (judgeForceLamp_watched number o) (s.judgedIn_windows .d c)
      (s.judgedIn_frameCount .d c) passes
    rw [zone] at applied
    exact applied
  · intro s tag hi lo i upsets number c r taken passes
    have taking := isTaking_unforce .d tag [hi, lo] upsets
    have zone : s.attributedZone 0x04 [hi, lo] = s.zoneOf i.val :=
      (taking.zone _ rfl s).symm.trans ((s.zoneOfFirst_some (by rw [number]; exact i.isLt)).trans (by rw [number]))
    have applied := taking.applied taken rfl (judgeUnforce_watched number) (s.judgedIn_windows .d c)
      (s.judgedIn_frameCount .d c) passes
    rw [zone] at applied
    exact applied
  · exact fun s tag upsets taken passes => exec_unforceAll parseUnforce_all taken passes
  · intro s tag hi lo o upsets taken bad
    exact (isTaking_forceLamp .d tag [hi, lo, o] upsets).refusedWith taken rfl
      (judgeForceLamp_none (bad.imp lampOf?_none Aspect.ofCode?_none))
  · intro s tag hi lo upsets taken high present
    exact (isTaking_unforce .d tag [hi, lo] upsets).refusedWith taken rfl (judgeUnforce_none present (lampOf?_none high))

/-- The READ LAMPS record of a lamp, in the statement's figures. -/
theorem State.lampReport_eq (s : State) (i : Lamp) : s.lampReport i =
    (let l := s.lamps[i]
     [ byte (16 * l.telemetry.code.toNat + l.override.elim 4 fun a => a.code.toNat),
       byte (16 * l.alarm.code.toNat + l.health.code.toNat),
       byte (l.attrs.dimGroup.val + (if l.attrs.alarmCapable then 8 else 0)
         + (if l.attrs.hornClass = .sound then 16 else 0) + (if l.attrs.supervised then 32 else 0)
         + (if l.suspect then 64 else 0)),
       (s.zoneOf i.val).elim 0xFF fun z => byte z.val, l.rendering.aspect.code, byte l.rendering.count ]) := by
  have flag (k : Nat) (b : Bool) : k * (flagByte b).toNat = if b = true then k else 0 := by cases b <;> simp [flagByte]
  have horn (c : HornClass) : 0x10 * c.code.toNat = if c = .sound then 16 else 0 := by cases c <;> rfl
  have override (o : Option Aspect) : (overrideCode o).toNat = o.elim 4 fun a => a.code.toNat := by cases o <;> rfl
  have zone (z : Option ZoneNo) : numberOrAbsent (z.map Fin.val) = z.elim 0xFF fun z => byte z.val := by cases z <;> rfl
  simp only [lampReport, lampRecordBytes, flag, horn, override, zone]

/-- Settles O23. -/
theorem readLampsReportsTheRecords : Obligations.ReadLampsReportsTheRecords := by
  intro s p tag hi lo n upsets c first r taken
  have taking := isTaking_readLamps p tag [hi, lo, n] upsets
  refine ⟨fun low high fits => ?_, fun bad => ?_⟩
  · have zone : s.attributedZone 0x05 [hi, lo, n] = s.zoneOf first :=
      (taking.zone _ rfl s).symm.trans (s.zoneOfFirst_some (show first < 4096 by omega))
    have passed : batchRange ⟨first, n.toNat⟩ 16 = none := if_pos ((Batch.ok_iff _ 16).2 ⟨low, high, fits⟩)
    have read : judgeReadLamps ((s.land upsets).takeHead p) ⟨first, n.toNat⟩ =
        (r, .done ([hi, lo, n] ++ (lampsFrom first n.toNat).flatMap r.lampReport)) := by
      show r.unless (batchRange ⟨first, n.toNat⟩ 16)
        (r, .done (bytes16 first ++ byte n.toNat :: (lampsFrom first n.toNat).flatMap r.lampReport)) = _
      rw [passed, bytes16_number16, byte_self]
      rfl
    have ends := taking.ends taken rfl read
    have report := funext fun i => (r.lampReport_eq i).trans (by rw [(sameZones_judgedIn s p c).zoneOf])
    rw [zone, report] at ends
    exact ends
  · refine taking.refusedWith taken rfl ?_
    have refused : batchRange ⟨first, n.toNat⟩ 16 = some ⟨.range, [hi, lo]⟩ := by
      rw [← bytes16_number16]
      refine if_neg fun ok => ?_
      have := (Batch.ok_iff _ 16).1 ok
      simp only at this
      omega
    exact congrArg (State.unless _ · _) refused

end Sys2Proof.Machine
end

section
/-! SUPPORT. SET ATTRIBUTES (R15 to R18) and the alarm commands (4.2, 4.3) applied to a batch: records, zone counts,
counters, failure list and notices. -/

namespace Sys2Proof.Machine

/-! ### Repeated effects -/

/-- Doing a thing that has no second effect, for each member that meets a condition. -/
theorem foldl_idempotent {α β : Type} {g : α → α} (once : ∀ a, g (g a) = g a) (c : β → Bool) (l : List β) (a : α) :
    l.foldl (fun a x => if c x = true then g a else a) a = if l.any c = true then g a else a := by
  rw [foldl_iterate]
  cases count : l.countP c with
  | zero =>
    have none : l.any c = false := by
      rw [← Bool.not_eq_true, List.any_eq_true]
      rintro ⟨x, mem, met⟩
      exact absurd met (List.countP_eq_zero.1 count x mem)
    rw [none]
    rfl
  | succ n =>
    obtain ⟨x, mem, met⟩ := List.countP_pos_iff.1 (show 0 < l.countP c by omega)
    rw [List.any_eq_true.2 ⟨x, mem, met⟩, if_pos rfl]
    induction n with
    | zero => rfl
    | succ n ih =>
      have : ∀ n, g^[n + 1] a = g a := fun n => by
        induction n with
        | zero => rfl
        | succ n ih => rw [Function.iterate_succ_apply', ih, once]
      exact this _

theorem Counter.bump_counts (c : Counter) (e : CounterEvent) (p : Option Port) (z : Option ZoneNo) :
    c.bump.counts e p z = c.counts e p z := by
  rw [Counter.bump_eq]
  rfl

/-- Events offered to a counter one after another. -/
theorem foldl_bump {α : Type} (q : α → Bool) (e : CounterEvent) (p : Option Port) (z : α → Option ZoneNo) (l : List α)
    (c : Counter) : l.foldl (fun c x => if (q x && c.counts e p (z x)) = true then c.bump else c) c =
      Counter.bump^[l.countP fun x => q x && c.counts e p (z x)] c := by
  induction l generalizing c with
  | nil => rfl
  | cons x xs ih =>
    rw [List.foldl_cons, ih, List.countP_cons]
    split
    · rw [Function.iterate_succ_apply]
      simp only [Counter.bump_counts]
    · rfl

theorem PerPort.eq_of_get {α : Type} {x y : PerPort α} (h : ∀ p, x.get p = y.get p) : x = y := by
  obtain ⟨x1, x2, xd⟩ := x
  obtain ⟨y1, y2, yd⟩ := y
  have h1 : x1 = y1 := h .t1
  have h2 : x2 = y2 := h .t2
  have hd : xd = yd := h .d
  rw [h1, h2, hd]

theorem State.raise_raise (s : State) (k : NoticeKind) : (s.raise k).raise k = s.raise k := by
  have twice : ((s.raise k).raise k).notices = (s.raise k).notices := PerPort.eq_of_get fun p => by
    simp only [raise, PerPort.get_map]
    split
    · rw [Vector.set_set]
    · rfl
  show { s.raise k with notices := ((s.raise k).raise k).notices } = _
  rw [twice]

/-! ### Zone counts under a transition (R63, R71) -/

section counts
variable {s : State} {i : Lamp} {event : AlarmState → AlarmState} {Z : Vector ZoneRecord 64}

/-- The unacknowledged counts after a transition of one lamp. -/
theorem unack_of_event (zones : Z = if event s.lamps[i].alarm = s.lamps[i].alarm then s.zones
      else (s.setAlarm i (event s.lamps[i].alarm)).zones) (z : ZoneNo) :
    Z[z].unack = if s.zoneOf i.val = some z then
      s.zones[z].unack + (event s.lamps[i].alarm).unack - s.lamps[i].alarm.unack else s.zones[z].unack := by
  rw [zones]
  by_cases same : event s.lamps[i].alarm = s.lamps[i].alarm
  · rw [if_pos same, same, Nat.add_sub_cancel, ite_self]
  · rw [if_neg same, State.setAlarm_zones]
    split <;> rfl

theorem standing_of_event (zones : Z = if event s.lamps[i].alarm = s.lamps[i].alarm then s.zones
      else (s.setAlarm i (event s.lamps[i].alarm)).zones) (z : ZoneNo) :
    Z[z].standing = if s.zoneOf i.val = some z then
      s.zones[z].standing + (event s.lamps[i].alarm).stands - s.lamps[i].alarm.stands else s.zones[z].standing := by
  rw [zones]
  by_cases same : event s.lamps[i].alarm = s.lamps[i].alarm
  · rw [if_pos same, same, Nat.add_sub_cancel, ite_self]
  · rw [if_neg same, State.setAlarm_zones]
    split <;> rfl

theorem sameZones_of_event {t : State} (zones : t.zones = if event s.lamps[i].alarm = s.lamps[i].alarm then s.zones
      else (s.setAlarm i (event s.lamps[i].alarm)).zones) : SameZones s t := by
  split at zones
  · exact .of_eq zones
  · exact (sameZones_setAlarm s i _).trans (.of_eq zones)

end counts

theorem iterate_succ (n m : Nat) : (fun a => a + 1)^[n] m = m + n := Nat.succ_iterate m n

theorem iterate_pred (n m : Nat) : (fun a => a - 1)^[n] m = m - n := Nat.pred_iterate m n

/-- Two states with the zones of a third have each other's. -/
theorem SameZones.left {s r t : State} (h : SameZones s r) (k : SameZones s t) : SameZones r t := fun z => by
  obtain ⟨_, _, hr⟩ := h z
  obtain ⟨_, _, ht⟩ := k z
  exact ⟨_, _, by rw [ht, hr]⟩

/-- A command whose application ends in the settling of the horn, and changes nothing that the watch unit looks at. -/
theorem IsTaking.applied_settled {c : Instr} {s : State} {p : Port} {cmd : Command} {α : Type}
    {parse : List Byte → Option α} {zone : State → α → Option ZoneNo} {judge : State → α → State × Answer} {a : α}
    (taking : IsTaking c p cmd parse zone judge) (taken : s.takes p cmd = true) (read : parse cmd.payload = some a)
    {t : State} {entered : Bool} {ans : Answer} {scope : Byte} {k : WatchKind} {low high : Nat}
    (judged : judge ((s.land c.upsets).takeHead p) a =
      (s.judgedIn p c).watched p cmd.code scope k low high (t.settleHorn entered, ans))
    (unwatched : t.windows = (s.judgedIn p c).windows ∧ t.frameCount = (s.judgedIn p c).frameCount)
    (passes : (s.judgedIn p c).passes p k low high) :
    exec c s = .next (((t.settleHorn entered).hitRecorded p cmd.code scope k low high).conclude p cmd
      (s.attributedZone cmd.code cmd.payload) ans) := by
  refine taking.applied taken read judged ?_ ?_ passes
  · rw [State.settleHorn_frame]
    exact unwatched.1.trans (s.judgedIn_windows p c)
  · rw [State.settleHorn_frame]
    exact unwatched.2.trans (s.judgedIn_frameCount p c)

/-! ### RAISE ALARM -/

theorem raiseLamp_zones (p : Port) (s : State) (i : Lamp) : (State.raiseLamp p s i).zones =
    if s.lamps[i].alarm.raised = s.lamps[i].alarm then s.zones else (s.setAlarm i s.lamps[i].alarm.raised).zones := by
  unfold State.raiseLamp
  dsimp only
  split <;> rfl

theorem raiseLamp_frame (p : Port) (s : State) (i : Lamp) : State.raiseLamp p s i = { s with
    lamps := (State.raiseLamp p s i).lamps, zones := (State.raiseLamp p s i).zones,
    counters := (State.raiseLamp p s i).counters, notices := (State.raiseLamp p s i).notices } := by
  unfold State.raiseLamp
  dsimp only
  split
  · rfl
  · rw [State.setAlarm_frame]
    rfl

/-- Whether RAISE enters NEW from an alarm state (R63). -/
def AlarmState.enters (a : AlarmState) : Bool := a = .normal || a = .returned

theorem AlarmState.raised_ne (a : AlarmState) : decide (a.raised ≠ a) = a.enters := by cases a <;> rfl

theorem AlarmState.raised_eq (a : AlarmState) : a.raised = if a.enters = true then .new else a := by cases a <;> rfl

/-- What RAISE over some lamps keeps of the state `s`, from the state `r` on. -/
def Raising (s r u : State) : Prop :=
  SameZones s u ∧ u = { r with lamps := u.lamps, zones := u.zones, counters := u.counters, notices := u.notices }

theorem edits_raiseLamp (p : Port) (s r : State) :
    Edits (Raising s r) (State.raiseLamp p) fun _ l => { l with alarm := l.alarm.raised } where
  keeps u i h := by
    obtain ⟨zones, frame⟩ := h
    refine ⟨zones.trans (sameZones_of_event (raiseLamp_zones p u i)), (raiseLamp_frame p u i).trans ?_⟩
    rw [frame]
  record u i k _ := raiseLamp_movesAlarm p u i k

section raise
variable {s r : State} {p : Port} {l : List Lamp}

theorem raiseLamps_lamps (nodup : l.Nodup) (start : Raising s r r) (i : Lamp) :
    (l.foldl (State.raiseLamp p) r).lamps[i] =
      if i ∈ l ∧ r.lamps[i].alarm.enters = true then { r.lamps[i] with alarm := .new } else r.lamps[i] := by
  rw [(edits_raiseLamp p s r).foldl nodup start, AlarmState.raised_eq]
  by_cases mem : i ∈ l
  · by_cases moved : r.lamps[i].alarm.enters = true
    · rw [if_pos mem, if_pos moved, if_pos ⟨mem, moved⟩]
    · rw [if_pos mem, if_neg moved, if_neg fun h => moved h.2]
  · rw [if_neg mem, if_neg fun h => mem h.1]

theorem raiseLamps_unack (nodup : l.Nodup) (start : Raising s r r) (z : ZoneNo) :
    (l.foldl (State.raiseLamp p) r).zones[z].unack =
      r.zones[z].unack + l.countP fun i => s.zoneOf i.val = some z && r.lamps[i].alarm = .normal := by
  rw [(edits_raiseLamp p s r).foldl_part (fun u => u.zones[z].unack)
    (fun i rec a => if (decide (s.zoneOf i.val = some z) && decide (rec.alarm = .normal)) = true then a + 1 else a)
    (fun u i h => ?_) nodup start]
  · exact (foldl_iterate (fun a => a + 1) (fun i : Lamp => decide (s.zoneOf i.val = some z) &&
      decide (r.lamps[i].alarm = .normal)) l _).trans (iterate_succ _ _)
  · show (State.raiseLamp p u i).zones[z].unack = _
    rw [unack_of_event (raiseLamp_zones p u i), h.1.zoneOf]
    by_cases here : s.zoneOf i.val = some z
    · cases alarm : u.lamps[i].alarm <;> simp [here, AlarmState.unack, AlarmState.raised]
    · simp [here]

theorem raiseLamps_standing (nodup : l.Nodup) (start : Raising s r r) (z : ZoneNo) :
    (l.foldl (State.raiseLamp p) r).zones[z].standing = r.zones[z].standing := by
  rw [(edits_raiseLamp p s r).foldl_part (fun u => u.zones[z].standing) (fun _ _ a => a) (fun u i h => ?_) nodup start]
  · exact List.foldl_fixed' (fun _ => rfl) l
  · show (State.raiseLamp p u i).zones[z].standing = _
    rw [standing_of_event (raiseLamp_zones p u i)]
    split
    · cases alarm : u.lamps[i].alarm <;> simp [AlarmState.stands, AlarmState.raised]
    · rfl

theorem raiseLamps_counters (nodup : l.Nodup) (start : Raising s r r) (j : CounterNo) :
    (l.foldl (State.raiseLamp p) r).counters[j] = Counter.bump^[l.countP fun i =>
      r.lamps[i].alarm.enters && r.counters[j].counts .alarmsRaised (some p) (s.zoneOf i.val)] r.counters[j] := by
  rw [(edits_raiseLamp p s r).foldl_part (fun u => u.counters[j]) (fun i rec c =>
    if (rec.alarm.enters && c.counts .alarmsRaised (some p) (s.zoneOf i.val)) = true then c.bump else c)
    (fun u i h => ?_) nodup start]
  · exact foldl_bump (fun i : Lamp => r.lamps[i].alarm.enters) _ _ (fun i => s.zoneOf i.val) l _
  · show (State.raiseLamp p u i).counters[j] = _
    rw [← h.1.zoneOf, ← AlarmState.raised_ne]
    unfold State.raiseLamp
    dsimp only
    by_cases same : u.lamps[i].alarm.raised = u.lamps[i].alarm
    · rw [if_pos same, decide_eq_false (fun h => h same), Bool.false_and]
      rfl
    · rw [if_neg same, decide_eq_true same, Bool.true_and, Fin.getElem_fin, State.report_get, State.raise_counters,
        State.setAlarm_frame]
      rfl

theorem raiseLamps_notices (nodup : l.Nodup) (start : Raising s r r) :
    (l.foldl (State.raiseLamp p) r).notices =
      (if (l.any fun i => r.lamps[i].alarm.enters) = true then r.raise .alarm else r).notices := by
  have whole : { r with notices := (l.foldl (State.raiseLamp p) r).notices } =
      if (l.any fun i => r.lamps[i].alarm.enters) = true then r.raise .alarm else r := by
    refine ((edits_raiseLamp p s r).foldl_part (fun u : State => ({ r with notices := u.notices } : State))
      (fun i rec a => if rec.alarm.enters = true then a.raise .alarm else a) (fun u i h => ?_) nodup start).trans ?_
    rotate_left
    · exact foldl_idempotent (fun a => a.raise_raise .alarm) (fun i : Lamp => r.lamps[i].alarm.enters) l r
    · show ({ r with notices := (State.raiseLamp p u i).notices } : State) = _
      have routing : u.routing = r.routing := by rw [h.2]
      rw [← AlarmState.raised_ne]
      unfold State.raiseLamp
      dsimp only
      by_cases same : u.lamps[i].alarm.raised = u.lamps[i].alarm
      · rw [if_pos same, decide_eq_false (fun h => h same)]
        rfl
      · rw [if_neg same, decide_eq_true same, State.setAlarm_frame, if_pos rfl]
        simp only [State.report_notices, State.raise, routing]
  rw [← whole]

end raise

/-- The state after RAISE over some lamps, with its one notice. -/
theorem eq_raised {r t : State} {b : Bool}
    (frame : t = { r with lamps := t.lamps, zones := t.zones, counters := t.counters, notices := t.notices })
    (notices : t.notices = (if b = true then r.raise .alarm else r).notices) :
    t = if b = true then State.raise { r with lamps := t.lamps, zones := t.zones, counters := t.counters } .alarm
      else { r with lamps := t.lamps, zones := t.zones, counters := t.counters } := by
  refine frame.trans ?_
  rw [notices]
  cases b <;> rfl

/-- Settles O34. -/
theorem raiseAlarmEntersNew : Obligations.RaiseAlarmEntersNew := by
  intro s p tag hi lo n upsets payload c first batch r enters taken telemetry low high fits checks passes
  have taking := isTaking_raiseAlarm p tag payload upsets
  have zone : s.attributedZone 0x30 payload = s.zoneOf first :=
    (taking.zone _ rfl s).symm.trans (s.zoneOfFirst_some (show first < 4096 by omega))
  have start : Raising s r r := ⟨sameZones_judgedIn s p c, rfl⟩
  have nodup : batch.Nodup := lampsFrom_nodup _ _
  have passed : r.alarmRefusal p ⟨first, n.toNat⟩ = none :=
    State.alarmRefusal_none telemetry ⟨low, high, fits⟩
      (fun i mem => by rw [(sameZones_judgedIn s p c).mayWrite]; exact (checks i mem).1) fun i mem => (checks i mem).2
  have watched : judgeRaiseAlarm p ((s.land upsets).takeHead p) ⟨first, n.toNat⟩ =
      r.watched p 0x30 0x00 .alarm first (first + n.toNat - 1)
        ((batch.foldl (State.raiseLamp p) r).settleHorn (r.soundEnters batch),
          .done (bytes16 first ++ [byte n.toNat, byte (r.changes AlarmState.raised batch)])) :=
    congrArg (State.unless _ · _) passed
  have sound : r.soundEnters batch = batch.any fun i => enters i && r.lamps[i].attrs.hornClass = .sound := by
    unfold State.soundEnters
    simp only [AlarmState.raised_ne]
    rfl
  have changed : r.changes AlarmState.raised batch = batch.countP enters := by
    unfold State.changes
    simp only [AlarmState.raised_ne]
    rfl
  have unack := raiseLamps_unack (p := p) nodup start
  have standing := raiseLamps_standing (p := p) nodup start
  have counters := raiseLamps_counters (p := p) nodup start
  have notices := raiseLamps_notices (p := p) nodup start
  have lamps := raiseLamps_lamps (p := p) nodup start
  have kept := (edits_raiseLamp p s r).keeps_foldl batch start
  generalize batch.foldl (State.raiseLamp p) r = t at *
  have raised := eq_raised kept.2 notices
  refine ⟨t.lamps, t.zones, t.counters, fun i => ?_, fun z => ?_, counters, ?_⟩
  · exact lamps i
  · refine ((start.1.left kept.1).record z).trans ?_
    rw [unack, standing]
  · rw [sound, changed] at watched
    have unwatched : t.windows = r.windows ∧ t.frameCount = r.frameCount := by
      rw [kept.2]
      exact ⟨rfl, rfl⟩
    have applied := taking.applied_settled taken rfl watched unwatched passes
    rw [zone, bytes16_number16, byte_self] at applied
    intro changed u
    have same : u = t := raised.symm
    rw [same]
    exact applied

/-! ### CLEAR ALARM -/

theorem clearLamp_zones (s : State) (i : Lamp) : (s.clearLamp i).zones =
    if s.lamps[i].alarm.cleared = s.lamps[i].alarm then s.zones else (s.setAlarm i s.lamps[i].alarm.cleared).zones := by
  unfold State.clearLamp
  dsimp only
  split <;> rfl

theorem clearLamp_frame (s : State) (i : Lamp) : s.clearLamp i = { s with
    lamps := (s.clearLamp i).lamps, zones := (s.clearLamp i).zones } := by
  unfold State.clearLamp
  dsimp only
  split
  · rfl
  · rw [State.setAlarm_frame]

/-- What CLEAR over some lamps keeps of the state `s`, from the state `r` on. -/
def Clearing (s r u : State) : Prop := SameZones s u ∧ u = { r with lamps := u.lamps, zones := u.zones }

theorem edits_clearLamp (s r : State) :
    Edits (Clearing s r) State.clearLamp fun _ l => { l with alarm := l.alarm.cleared } where
  keeps u i h := by
    obtain ⟨zones, frame⟩ := h
    refine ⟨zones.trans (sameZones_of_event (clearLamp_zones u i)), (clearLamp_frame u i).trans ?_⟩
    rw [frame]
  record u i k _ := clearLamp_movesAlarm u i k

section clear
variable {s r : State} {l : List Lamp}

theorem clearLamps_unack (nodup : l.Nodup) (start : Clearing s r r) (z : ZoneNo) :
    (l.foldl State.clearLamp r).zones[z].unack = r.zones[z].unack := by
  rw [(edits_clearLamp s r).foldl_part (fun u => u.zones[z].unack) (fun _ _ a => a) (fun u i h => ?_) nodup start]
  · exact List.foldl_fixed' (fun _ => rfl) l
  · show (u.clearLamp i).zones[z].unack = _
    rw [unack_of_event (clearLamp_zones u i)]
    split
    · cases alarm : u.lamps[i].alarm <;> simp [AlarmState.unack, AlarmState.cleared]
    · rfl

theorem clearLamps_standing (nodup : l.Nodup) (start : Clearing s r r) (z : ZoneNo) :
    (l.foldl State.clearLamp r).zones[z].standing =
      r.zones[z].standing - l.countP fun i => s.zoneOf i.val = some z && r.lamps[i].alarm = .standing := by
  rw [(edits_clearLamp s r).foldl_part (fun u => u.zones[z].standing)
    (fun i rec a => if (decide (s.zoneOf i.val = some z) && decide (rec.alarm = .standing)) = true then a - 1 else a)
    (fun u i h => ?_) nodup start]
  · exact (foldl_iterate (fun a => a - 1) (fun i : Lamp => decide (s.zoneOf i.val = some z) &&
      decide (r.lamps[i].alarm = .standing)) l _).trans (iterate_pred _ _)
  · show (u.clearLamp i).zones[z].standing = _
    rw [standing_of_event (clearLamp_zones u i), h.1.zoneOf]
    by_cases here : s.zoneOf i.val = some z
    · cases alarm : u.lamps[i].alarm <;> simp [here, AlarmState.stands, AlarmState.cleared]
    · simp [here]

end clear

theorem AlarmState.cleared_ne (a : AlarmState) : decide (a.cleared ≠ a) = (decide (a = .new) || decide (a = .standing)) := by
  cases a <;> rfl

/-- Settles O35. -/
theorem clearAlarmLeavesUnacknowledgedReturned : Obligations.ClearAlarmLeavesUnacknowledgedReturned := by
  intro s p tag hi lo n upsets payload c first batch r taken telemetry low high fits checks passes
  have taking := isTaking_clearAlarm p tag payload upsets
  have zone : s.attributedZone 0x31 payload = s.zoneOf first :=
    (taking.zone _ rfl s).symm.trans (s.zoneOfFirst_some (show first < 4096 by omega))
  have start : Clearing s r r := ⟨sameZones_judgedIn s p c, rfl⟩
  have nodup : batch.Nodup := lampsFrom_nodup _ _
  have passed : r.alarmRefusal p ⟨first, n.toNat⟩ = none :=
    State.alarmRefusal_none telemetry ⟨low, high, fits⟩
      (fun i mem => by rw [(sameZones_judgedIn s p c).mayWrite]; exact (checks i mem).1) fun i mem => (checks i mem).2
  have watched : judgeClearAlarm p ((s.land upsets).takeHead p) ⟨first, n.toNat⟩ =
      r.watched p 0x31 0x00 .alarm first (first + n.toNat - 1) ((batch.foldl State.clearLamp r).settleHorn false,
        .done (bytes16 first ++ [byte n.toNat, byte (r.changes AlarmState.cleared batch)])) :=
    congrArg (State.unless _ · _) passed
  have changed : r.changes AlarmState.cleared batch =
      batch.countP fun i => r.lamps[i].alarm = .new || r.lamps[i].alarm = .standing := by
    unfold State.changes
    simp only [AlarmState.cleared_ne]
  have unack := clearLamps_unack nodup start
  have standing := clearLamps_standing nodup start
  have lamps := (edits_clearLamp s r).foldl nodup start
  have kept := (edits_clearLamp s r).keeps_foldl batch start
  generalize batch.foldl State.clearLamp r = t at *
  refine ⟨t.lamps, t.zones, lamps, fun z => ?_, ?_⟩
  · refine ((start.1.left kept.1).record z).trans ?_
    rw [unack, standing]
  · have unwatched : t.windows = r.windows ∧ t.frameCount = r.frameCount := by
      rw [kept.2]
      exact ⟨rfl, rfl⟩
    have applied := taking.applied_settled taken rfl watched unwatched passes
    rw [zone, bytes16_number16, byte_self, changed] at applied
    rw [← kept.2]
    exact applied

/-! ### ACKNOWLEDGE -/

theorem ackLamp_zones (p : Port) (s : State) (i : Lamp) : (State.ackLamp p s i).zones =
    if s.lamps[i].alarm.acknowledged = s.lamps[i].alarm then s.zones
    else (s.setAlarm i s.lamps[i].alarm.acknowledged).zones := by
  unfold State.ackLamp
  dsimp only
  split <;> rfl

theorem ackLamp_frame (p : Port) (s : State) (i : Lamp) : State.ackLamp p s i = { s with
    lamps := (State.ackLamp p s i).lamps, zones := (State.ackLamp p s i).zones,
    counters := (State.ackLamp p s i).counters } := by
  unfold State.ackLamp
  dsimp only
  split
  · rfl
  · rw [State.setAlarm_frame]
    rfl

/-- What ACKNOWLEDGE over some lamps keeps of the state `s`, from the state `r` on. -/
def Acking (s r u : State) : Prop :=
  SameZones s u ∧ u = { r with lamps := u.lamps, zones := u.zones, counters := u.counters }

theorem edits_ackLamp (p : Port) (s r : State) :
    Edits (Acking s r) (State.ackLamp p) fun _ l => { l with alarm := l.alarm.acknowledged } where
  keeps u i h := by
    obtain ⟨zones, frame⟩ := h
    refine ⟨zones.trans (sameZones_of_event (ackLamp_zones p u i)), (ackLamp_frame p u i).trans ?_⟩
    rw [frame]
  record u i k _ := ackLamp_movesAlarm p u i k

/-- Whether a lamp in an alarm state awaits acknowledgement (R62). -/
def AlarmState.awaits (a : AlarmState) : Bool := a = .new || a = .returned

theorem AlarmState.acknowledged_ne (a : AlarmState) : decide (a.acknowledged ≠ a) = a.awaits := by cases a <;> rfl

section ack
variable {s r : State} {p : Port} {l : List Lamp}

theorem ackLamps_unack (nodup : l.Nodup) (start : Acking s r r) (z : ZoneNo) :
    (l.foldl (State.ackLamp p) r).zones[z].unack =
      r.zones[z].unack - l.countP fun i => s.zoneOf i.val = some z && r.lamps[i].alarm.awaits := by
  rw [(edits_ackLamp p s r).foldl_part (fun u => u.zones[z].unack)
    (fun i rec a => if (decide (s.zoneOf i.val = some z) && rec.alarm.awaits) = true then a - 1 else a)
    (fun u i h => ?_) nodup start]
  · exact (foldl_iterate (fun a => a - 1) (fun i : Lamp => decide (s.zoneOf i.val = some z) &&
      r.lamps[i].alarm.awaits) l _).trans (iterate_pred _ _)
  · show (State.ackLamp p u i).zones[z].unack = _
    rw [unack_of_event (ackLamp_zones p u i), h.1.zoneOf]
    by_cases here : s.zoneOf i.val = some z
    · cases alarm : u.lamps[i].alarm <;> simp [here, AlarmState.unack, AlarmState.acknowledged, AlarmState.awaits]
    · simp [here]

theorem ackLamps_standing (nodup : l.Nodup) (start : Acking s r r) (z : ZoneNo) :
    (l.foldl (State.ackLamp p) r).zones[z].standing =
      r.zones[z].standing + l.countP fun i => s.zoneOf i.val = some z && r.lamps[i].alarm = .new := by
  rw [(edits_ackLamp p s r).foldl_part (fun u => u.zones[z].standing)
    (fun i rec a => if (decide (s.zoneOf i.val = some z) && decide (rec.alarm = .new)) = true then a + 1 else a)
    (fun u i h => ?_) nodup start]
  · exact (foldl_iterate (fun a => a + 1) (fun i : Lamp => decide (s.zoneOf i.val = some z) &&
      decide (r.lamps[i].alarm = .new)) l _).trans (iterate_succ _ _)
  · show (State.ackLamp p u i).zones[z].standing = _
    rw [standing_of_event (ackLamp_zones p u i), h.1.zoneOf]
    by_cases here : s.zoneOf i.val = some z
    · cases alarm : u.lamps[i].alarm <;> simp [here, AlarmState.stands, AlarmState.acknowledged]
    · simp [here]

theorem ackLamps_counters (nodup : l.Nodup) (start : Acking s r r) (j : CounterNo) :
    (l.foldl (State.ackLamp p) r).counters[j] = Counter.bump^[l.countP fun i =>
      r.lamps[i].alarm.awaits && r.counters[j].counts .acks (some p) (s.zoneOf i.val)] r.counters[j] := by
  rw [(edits_ackLamp p s r).foldl_part (fun u => u.counters[j]) (fun i rec c =>
    if (rec.alarm.awaits && c.counts .acks (some p) (s.zoneOf i.val)) = true then c.bump else c)
    (fun u i h => ?_) nodup start]
  · exact foldl_bump (fun i : Lamp => r.lamps[i].alarm.awaits) _ _ (fun i => s.zoneOf i.val) l _
  · show (State.ackLamp p u i).counters[j] = _
    rw [← h.1.zoneOf, ← AlarmState.acknowledged_ne]
    unfold State.ackLamp
    dsimp only
    by_cases same : u.lamps[i].alarm.acknowledged = u.lamps[i].alarm
    · rw [if_pos same, decide_eq_false (fun h => h same), Bool.false_and]
      rfl
    · rw [if_neg same, decide_eq_true same, Bool.true_and, Fin.getElem_fin, State.report_get, State.setAlarm_frame]
      rfl

end ack

/-- An ACKNOWLEDGE that is applied does what R69 says. -/
theorem acknowledges_of_judged {s : State} {p : Port} {tag : Byte} {payload : List Byte} {upsets : List Upset} {a : AckScope}
    {scope : Scope} {carried : List Byte} {lamps : List Lamp} {low high : Nat}
    (taken : s.takes p ⟨tag, 0x32, payload⟩ = true) (read : parseAcknowledge payload = some a) (nodup : lamps.Nodup)
    (judged : judgeAcknowledge p ((s.land upsets).takeHead p) a =
      (s.judgedIn p (.acknowledge p tag payload upsets)).acknowledged p scope carried lamps low high)
    (passes : (s.judgedIn p (.acknowledge p tag payload upsets)).passes p .ack low high) :
    acknowledges (.acknowledge p tag payload upsets) s p ⟨tag, 0x32, payload⟩ scope carried lamps low high := by
  unfold acknowledges
  intro r awaits
  have taking := isTaking_acknowledge p tag payload upsets
  have start : Acking s r r := ⟨sameZones_judgedIn s p _, rfl⟩
  have watched : judgeAcknowledge p ((s.land upsets).takeHead p) a =
      r.watched p 0x32 scope.code .ack low high ((lamps.foldl (State.ackLamp p) r).settleHorn false,
        .done (scope.code :: carried ++ bytes16 (r.changes AlarmState.acknowledged lamps))) := judged
  have changed : r.changes AlarmState.acknowledged lamps = lamps.countP fun i => awaits r.lamps[i].alarm := by
    unfold State.changes
    simp only [AlarmState.acknowledged_ne]
    rfl
  have unack := ackLamps_unack (p := p) nodup start
  have standing := ackLamps_standing (p := p) nodup start
  have counters := ackLamps_counters (p := p) nodup start
  have records := (edits_ackLamp p s r).foldl nodup start
  have kept := (edits_ackLamp p s r).keeps_foldl lamps start
  generalize lamps.foldl (State.ackLamp p) r = t at *
  refine ⟨t.lamps, t.zones, t.counters, records, fun z => ?_, counters, ?_⟩
  · refine ((start.1.left kept.1).record z).trans ?_
    rw [unack, standing]
    rfl
  · have unwatched : t.windows = r.windows ∧ t.frameCount = r.frameCount := by
      rw [kept.2]
      exact ⟨rfl, rfl⟩
    have applied := taking.applied_settled taken read watched unwatched passes
    rw [changed] at applied
    rw [← kept.2]
    exact applied

theorem parseAcknowledge_bad {scope : Byte} (lamps : scope ≠ 0x01) (zone : scope ≠ 0x02) (all : scope ≠ 0x03) (a b n : Byte) :
    parseAcknowledge [scope, a, b, n] = some (.bad [a, b]) ∧ parseAcknowledge [scope, a] = some (.bad [a]) ∧
      parseAcknowledge [scope] = some (.bad []) := by
  have none : Scope.ofCode? scope = none := by
    rw [Scope.ofCode?, if_neg lamps, if_neg zone, if_neg all]
  simp only [parseAcknowledge, none, and_self]

theorem judgeAcknowledge_zone_none {p : Port} {u : State} {b : Byte} (high : b.toNat > 63) :
    judgeAcknowledge p u (.zone b) = (u.checkLamps (u.ackLamps (.zone b)), ⟨.range, [b]⟩) := by
  unfold judgeAcknowledge
  simp only [zoneNoOf?_none high]

/-- The checks of ACKNOWLEDGE of scope ZONE, for a zone that exists. -/
theorem judgeAcknowledge_zone_eq {p : Port} {u r : State} {b : Byte} {z : ZoneNo}
    (reads : u.checkLamps (u.ackLamps (.zone b)) = r) (number : z.val = b.toNat) :
    judgeAcknowledge p u (.zone b) =
      if (!r.zones[z].enabled) = true then (r, ⟨.range, [b]⟩)
      else if p ≠ .d ∧ r.zones[z].owner ≠ some p then (r, ⟨.notOwner, [b, portOrNone r.zones[z].owner]⟩)
      else r.acknowledged p .zone [b] (lampsFrom r.zones[z].base r.zones[z].size) r.zones[z].base
        (r.zones[z].base + r.zones[z].size - 1) := by
  unfold judgeAcknowledge
  simp only [zoneNoOf?_some number, reads]

/-- Settles O36. -/
theorem acknowledgeInEveryScope : Obligations.AcknowledgeInEveryScope := by
  intro s p tag upsets
  refine ⟨fun hi lo n => ?_, fun b => ?_, ?_, fun scope a b n lamps zone all => ?_⟩
  · intro payload c first taken
    have taking := isTaking_acknowledge p tag payload upsets
    refine ⟨fun low high fits owns passes => ?_, fun bad => ?_, fun low high fits telemetry i mem foreign least => ?_⟩
    · exact acknowledges_of_judged taken rfl (lampsFrom_nodup _ _) (judgeAcknowledge_lamps ⟨low, high, fits⟩ owns) passes
    · refine taking.refusedWith taken (a := .lamps ⟨first, n.toNat⟩) rfl ?_
      have refused := batchRange_bad (first := first) (count := n.toNat) (max := 64) (by omega)
        (if p = .d then none else (s.judgedIn p c).notOwner p (lampsFrom first n.toNat))
      rw [bytes16_number16] at refused
      exact congrArg (State.unless _ · _) refused
    · refine taking.refusedWith taken (a := .lamps ⟨first, n.toNat⟩) rfl ?_
      have owners (k : Lamp) : (s.judgedIn p c).mayWrite p k = s.mayWrite p k := (sameZones_judgedIn s p c).mayWrite p k
      have refused : (batchRange ⟨first, n.toNat⟩ 64).or
          (if p = .d then none else (s.judgedIn p c).notOwner p (lampsFrom first n.toNat)) =
            some ⟨.notOwner, bytes16 i.val⟩ := by
        rw [batchRange_or ⟨low, high, fits⟩, if_neg telemetry]
        refine State.notOwner_some mem (by rw [owners, foreign]; decide) fun k from_ below => ?_
        rw [owners]
        exact least k ((mem_lampsFrom _ _ _).2 ⟨from_, by have := (mem_lampsFrom _ _ _).1 mem; omega⟩) below
      exact congrArg (State.unless _ · _) refused
  · intro payload c taken
    have taking := isTaking_acknowledge p tag payload upsets
    have zones := sameZones_judgedIn s p c
    refine ⟨fun high => ?_, fun z number => ⟨fun disabled => ?_, fun enabled telemetry foreign => ?_,
      fun enabled owns => ?_⟩⟩
    · exact taking.refusedWith taken rfl (judgeAcknowledge_zone_none high)
    · have off : (!(s.judgedIn p c).zones[z].enabled) = true := by rw [zones.enabled, disabled]; rfl
      exact taking.refusedWith taken rfl ((judgeAcknowledge_zone_eq rfl number).trans (if_pos off))
    · have on : ¬ (!(s.judgedIn p c).zones[z].enabled) = true := by rw [zones.enabled, enabled]; decide
      rw [← zones.owner] at foreign ⊢
      exact taking.refusedWith taken rfl ((judgeAcknowledge_zone_eq rfl number).trans
        ((if_neg on).trans (if_pos ⟨telemetry, foreign⟩)))
    · intro low high passes
      exact acknowledges_of_judged taken rfl (lampsFrom_nodup _ _) (judgeAcknowledge_zone number enabled owns) passes
  · intro c taken passes
    exact acknowledges_of_judged taken rfl (lampsFrom_nodup _ _) judgeAcknowledge_all passes
  · intro refused
    obtain ⟨four, two, one⟩ := parseAcknowledge_bad lamps zone all a b n
    have judged {payload carried : List Byte} (read : parseAcknowledge payload = some (.bad carried)) :
        refused payload carried := fun taken =>
      (isTaking_acknowledge p tag payload upsets).refusedWith taken read (by rw [s.judgedIn_acknowledge read]; rfl)
    exact ⟨judged four, judged two, judged one⟩

end Sys2Proof.Machine
end

section
/-! SUPPORT. SET ATTRIBUTES over a batch (R15 to R18). -/

namespace Sys2Proof.Machine

/-! ### One lamp -/

theorem giveAttributes_zones (s : State) (x : Lamp × Attributes) : (s.giveAttributes x).zones =
    if (s.lamps[x.1].attrs.alarmCapable && !x.2.alarmCapable) = true then (s.setAlarm x.1 .normal).zones else s.zones := by
  rw [State.giveAttributes_eq, State.setLamp_zones]
  unfold State.delistedBy State.silencedBy
  split <;> split <;> rfl

theorem giveAttributes_failures (s : State) (x : Lamp × Attributes) : (s.giveAttributes x).failures =
    if (s.lamps[x.1].attrs.supervised && !x.2.supervised) = true then (s.becameGood x.1).failures else s.failures := by
  rw [State.giveAttributes_eq, State.setLamp_failures]
  have silenced : (s.silencedBy x).failures = s.failures := by
    unfold State.silencedBy
    split
    · rw [State.setAlarm_frame]
    · rfl
  unfold State.delistedBy
  split
  · rw [State.becameGood, silenced]
    rfl
  · exact silenced

theorem giveAttributes_frame (s : State) (x : Lamp × Attributes) : s.giveAttributes x = { s with
    lamps := (s.giveAttributes x).lamps, zones := (s.giveAttributes x).zones,
    failures := (s.giveAttributes x).failures } := by
  have silenced : s.silencedBy x = { s with lamps := (s.silencedBy x).lamps, zones := (s.silencedBy x).zones } := by
    unfold State.silencedBy
    split
    · rw [State.setAlarm_frame]
    · rfl
  rw [State.giveAttributes_eq]
  unfold State.delistedBy
  split
  · rw [State.becameGood_frame, silenced]
    rfl
  · rw [silenced]
    rfl

theorem sameZones_giveAttributes (s : State) (x : Lamp × Attributes) : SameZones s (s.giveAttributes x) := by
  have zones := giveAttributes_zones s x
  split at zones
  · exact (sameZones_setAlarm s x.1 .normal).trans (.of_eq zones)
  · exact .of_eq zones

/-! ### A batch -/

/-- What SET ATTRIBUTES over some lamps keeps of the state `s`, from the state `r` on. -/
def Giving (s r u : State) : Prop :=
  SameZones s u ∧ u = { r with lamps := u.lamps, zones := u.zones, failures := u.failures }

theorem edits_giveAttributes (s r : State) (new : Lamp → Attributes) :
    Edits (Giving s r) (fun u i => u.giveAttributes (i, new i)) fun i l => l.given (new i) where
  keeps u i h := by
    obtain ⟨zones, frame⟩ := h
    refine ⟨zones.trans (sameZones_giveAttributes u (i, new i)), (giveAttributes_frame u (i, new i)).trans ?_⟩
    rw [frame]
  record u i k _ := u.giveAttributes_lamps (i, new i) k

/-- Failure list entries dealt with as for lamps that become GOOD, one lamp after another (R126). -/
theorem foldl_becameGood {l : List Lamp} (nodup : l.Nodup) (freed : Lamp → Bool) (entries : List FailureEntry) :
    l.foldl (fun es i => if freed i = true then es.filterMap fun e =>
        if e.lamp = i then (if e.reported then none else some { e with recovered := true }) else some e
      else es) entries =
      entries.filterMap fun e => if e.lamp ∈ l ∧ freed e.lamp = true then
        (if e.reported then none else some { e with recovered := true }) else some e := by
  induction l generalizing entries with
  | nil => simp
  | cons i is ih =>
    obtain ⟨fresh, nodup⟩ := List.nodup_cons.1 nodup
    rw [List.foldl_cons, ih nodup]
    by_cases free : freed i = true
    · rw [if_pos free, List.filterMap_filterMap]
      refine List.filterMap_congr fun e _ => ?_
      by_cases here : e.lamp = i
      · have both : e.lamp ∈ i :: is ∧ freed e.lamp = true := by
          rw [here]
          exact ⟨List.mem_cons_self, free⟩
        have gone : ¬ (e.lamp ∈ is ∧ freed e.lamp = true) := fun h => fresh (by rw [← here]; exact h.1)
        rw [if_pos here, if_pos both]
        cases e.reported with
        | true => rfl
        | false => exact if_neg gone
      · rw [if_neg here]
        simp only [List.mem_cons, here, false_or, Option.bind_some]
    · rw [if_neg free]
      refine List.filterMap_congr fun e _ => ?_
      by_cases here : e.lamp = i
      · rw [if_neg fun h => free (by rw [← here]; exact h.2), if_neg fun h => free (by rw [← here]; exact h.2)]
      · simp only [List.mem_cons, here, false_or]

section give
variable {s r : State} {l : List Lamp} (new : Lamp → Attributes)

/-- Whether a lamp's record loses the alarm-capable flag (R16). -/
def LampRecord.silenced (l : LampRecord) (new : Attributes) : Bool := l.attrs.alarmCapable && !new.alarmCapable

theorem giveAttributes_unack (nodup : l.Nodup) (start : Giving s r r) (z : ZoneNo) :
    (l.foldl (fun u i => u.giveAttributes (i, new i)) r).zones[z].unack =
      r.zones[z].unack - l.countP fun i => s.zoneOf i.val = some z && r.lamps[i].silenced (new i) &&
        (r.lamps[i].alarm = .new || r.lamps[i].alarm = .returned) := by
  rw [(edits_giveAttributes s r new).foldl_part (fun u => u.zones[z].unack)
    (fun i rec a => if (decide (s.zoneOf i.val = some z) && rec.silenced (new i) &&
      (decide (rec.alarm = .new) || decide (rec.alarm = .returned))) = true then a - 1 else a)
    (fun u i h => ?_) nodup start]
  · exact (foldl_iterate (fun a => a - 1) (fun i : Lamp => decide (s.zoneOf i.val = some z) &&
      r.lamps[i].silenced (new i) && (decide (r.lamps[i].alarm = .new) || decide (r.lamps[i].alarm = .returned))) l _).trans
      (iterate_pred _ _)
  · show (u.giveAttributes (i, new i)).zones[z].unack = _
    rw [giveAttributes_zones, ← h.1.zoneOf]
    show (if u.lamps[i].silenced (new i) = true then _ else _ : Vector ZoneRecord 64)[z].unack = _
    cases silenced : u.lamps[i].silenced (new i) with
    | false => simp
    | true =>
      rw [if_pos rfl, State.setAlarm_zones]
      by_cases here : u.zoneOf i.val = some z
      · cases alarm : u.lamps[i].alarm <;> simp [here, AlarmState.unack]
      · simp [here]

theorem giveAttributes_standing (nodup : l.Nodup) (start : Giving s r r) (z : ZoneNo) :
    (l.foldl (fun u i => u.giveAttributes (i, new i)) r).zones[z].standing =
      r.zones[z].standing - l.countP fun i => s.zoneOf i.val = some z && r.lamps[i].silenced (new i) &&
        r.lamps[i].alarm = .standing := by
  rw [(edits_giveAttributes s r new).foldl_part (fun u => u.zones[z].standing)
    (fun i rec a => if (decide (s.zoneOf i.val = some z) && rec.silenced (new i) &&
      decide (rec.alarm = .standing)) = true then a - 1 else a)
    (fun u i h => ?_) nodup start]
  · exact (foldl_iterate (fun a => a - 1) (fun i : Lamp => decide (s.zoneOf i.val = some z) &&
      r.lamps[i].silenced (new i) && decide (r.lamps[i].alarm = .standing)) l _).trans (iterate_pred _ _)
  · show (u.giveAttributes (i, new i)).zones[z].standing = _
    rw [giveAttributes_zones, ← h.1.zoneOf]
    show (if u.lamps[i].silenced (new i) = true then _ else _ : Vector ZoneRecord 64)[z].standing = _
    cases silenced : u.lamps[i].silenced (new i) with
    | false => simp
    | true =>
      rw [if_pos rfl, State.setAlarm_zones]
      by_cases here : u.zoneOf i.val = some z
      · cases alarm : u.lamps[i].alarm <;> simp [here, AlarmState.stands]
      · simp [here]

theorem giveAttributes_entries (nodup : l.Nodup) (start : Giving s r r) :
    (l.foldl (fun u i => u.giveAttributes (i, new i)) r).failures = r.failures.filterMap fun e =>
      if e.lamp ∈ l ∧ (r.lamps[e.lamp].attrs.supervised && !(new e.lamp).supervised) = true then
        (if e.reported then none else some { e with recovered := true }) else some e := by
  rw [(edits_giveAttributes s r new).foldl_part (fun u => u.failures)
    (fun i rec es => if (rec.attrs.supervised && !(new i).supervised) = true then es.filterMap fun e : FailureEntry =>
      if e.lamp = i then (if e.reported then none else some { e with recovered := true }) else some e else es)
    (fun u i _ => giveAttributes_failures u (i, new i)) nodup start]
  exact foldl_becameGood nodup (fun i => r.lamps[i].attrs.supervised && !(new i).supervised) r.failures

end give

/-- Settles O21. -/
theorem setAttributesGivesAttributes : Obligations.SetAttributesGivesAttributes := by
  intro s p tag hi lo n given upsets payload c first r new named silenced freed taken telemetry length low high fits owns passes
  have taking := isTaking_setAttributes p tag payload upsets
  have bytes := attributeBytes_length given
  have read : parseSetAttributes payload = some (⟨first, n.toNat⟩, quads (given.flatMap fun a =>
      [flagByte a.alarmCapable, a.hornClass.code, byte a.dimGroup.val, flagByte a.supervised])) :=
    parseSetAttributes_some (by rw [bytes, length])
  have zone : s.attributedZone 0x02 payload = s.zoneOf first :=
    (taking.zone _ read s).symm.trans (s.zoneOfFirst_some (show first < 4096 by omega))
  have mem_named (i : Lamp) : i ∈ lampsFrom first n.toNat ↔ named i = true := by
    simp [named]
  have watched : judgeSetAttributes p ((s.land upsets).takeHead p) (⟨first, n.toNat⟩, quads (given.flatMap fun a =>
      [flagByte a.alarmCapable, a.hornClass.code, byte a.dimGroup.val, flagByte a.supervised])) =
      r.watched p 0x02 0x00 .attributes first (first + n.toNat - 1)
        ((((lampsFrom first n.toNat).zip given).foldl State.giveAttributes r).settleHorn false, .done [hi, lo, n]) :=
    judgeSetAttributes_watched given length telemetry ⟨low, high, fits⟩ fun i mem => owns i ((mem_named i).1 mem)
  rw [zip_lampsFrom fits length LampRecord.reset.attrs, List.foldl_map] at watched
  have start : Giving s r r := ⟨sameZones_judgedIn s p c, rfl⟩
  have nodup := lampsFrom_nodup first n.toNat
  have unack := giveAttributes_unack new nodup start
  have standing := giveAttributes_standing new nodup start
  have entries := giveAttributes_entries new nodup start
  have records := (edits_giveAttributes s r new).foldl nodup start
  have kept := (edits_giveAttributes s r new).keeps_foldl (lampsFrom first n.toNat) start
  generalize (lampsFrom first n.toNat).foldl _ r = t at *
  refine ⟨t.lamps, t.zones, fun i => ?_, fun z => ?_, ?_⟩
  · rw [records]
    exact if_congr (mem_named i) rfl rfl
  · refine ((start.1.left kept.1).record z).trans ?_
    rw [unack, standing]
    rfl
  · have unwatched : t.windows = r.windows ∧ t.frameCount = r.frameCount := by
      rw [kept.2]
      exact ⟨rfl, rfl⟩
    have applied := taking.applied_settled taken read watched unwatched passes
    rw [zone] at applied
    have list : t.failures = r.failures.filterMap fun e => if (named e.lamp && freed e.lamp) = true then
        (if e.reported then none else some { e with recovered := true }) else some e := by
      rw [entries]
      refine List.filterMap_congr fun e _ => if_congr ?_ rfl rfl
      exact (and_congr_left fun _ => mem_named e.lamp).trans (Bool.and_eq_true _ _).symm.to_iff
    rw [← list, ← kept.2]
    exact applied

end Sys2Proof.Machine
end

section
/-! SUPPORT. What a checking read makes of a record, and the delivery of a string's observations (6.3, 6.5). -/

namespace Sys2Proof.Machine

/-! ### Checking reads -/

theorem State.checkLamp_lamps (s : State) (i k : Lamp) :
    (s.checkLamp i).lamps[k] = if k = i then s.lamps[i].checked else s.lamps[k] := by
  unfold checkLamp
  split
  · rename_i clean
    have same : s.lamps[i].checked = s.lamps[i] := by rw [LampRecord.checked, clean]
    rw [same]
    split
    · subst k; rfl
    · rfl
  · rename_i single
    have corrected : s.lamps[i].checked = { s.lamps[i] with integrity := .clean } := by rw [LampRecord.checked, single]
    rw [corrected, reportFault_frame]
    exact Vector_set_fin _ _ _ _
  · rename_i double
    have replaced : s.lamps[i].checked = .suspectDefaults := by rw [LampRecord.checked, double]; rfl
    rw [replaced, reportFault_frame, settleHorn_frame, countChange_frame]
    exact Vector_set_fin _ _ _ _

theorem State.reportFault_get (s : State) (k : FaultKind) (place : FaultPlace) (p : Port) {j : NoticeKind} (other : j ≠ .fault) :
    ((s.reportFault k place).notices.get p)[j.index] = (s.notices.get p)[j.index] := by
  unfold reportFault
  split
  · rfl
  · split
    · rfl
    · rw [raise_get, decide_eq_false other, Bool.false_and, Bool.or_false]

theorem State.settleHorn_get (s : State) (entered : Bool) (p : Port) {j : NoticeKind} (other : j ≠ .horn) :
    ((s.settleHorn entered).notices.get p)[j.index] = (s.notices.get p)[j.index] := by
  rw [settleHorn_eq]
  unfold setHorn
  split
  · rfl
  · rw [raise_get, decide_eq_false other, Bool.false_and, Bool.or_false]

/-- A checking read raises no notice but FAULT and HORN. -/
theorem State.checkLamp_get (s : State) (i : Lamp) (p : Port) {j : NoticeKind} (fault : j ≠ .fault) (horn : j ≠ .horn) :
    ((s.checkLamp i).notices.get p)[j.index] = (s.notices.get p)[j.index] := by
  unfold checkLamp
  split
  · rfl
  · rw [reportFault_get _ _ _ _ fault]
    rfl
  · rw [reportFault_get _ _ _ _ fault, settleHorn_get _ _ _ horn, countChange_frame]
    rfl

/-! ### The health decision in one equation (R115, R116, R125, R126) -/

/-- The healths of declared lamps. -/
def Health.failed (h : Health) : Bool := h = .opened || h = .stuck

/-- A lamp given a health and a run count, with what goes to the counters and the failure list. -/
def State.giveHealth (s : State) (i : Lamp) (a : Health × Nat) : State :=
  let t := s.setLamp i { s.lamps[i] with health := a.1, runCount := a.2 }
  if (!s.lamps[i].health.failed && a.1.failed) = true then
    (t.report .lampFailures none (s.zoneOf i.val)).declare i (if a.1 = .opened then .opened else .stuck)
  else if s.lamps[i].health ≠ .good ∧ a.1 = .good then t.becameGood i
  else t

theorem State.setLamp_same (s : State) (i : Lamp) : s.setLamp i s.lamps[i] = s := by
  unfold setLamp
  rw [Fin.getElem_fin, Vector.set_getElem_self]

theorem State.giveHealth_run (s : State) (i : Lamp) (run : Nat) :
    s.giveHealth i (s.lamps[i].health, run) = s.setLamp i { s.lamps[i] with runCount := run } := by
  unfold giveHealth
  dsimp only
  rw [if_neg (by cases s.lamps[i].health.failed <;> decide), if_neg fun h => h.1 h.2]

theorem State.giveHealth_good {s : State} {i : Lamp} (other : s.lamps[i].health ≠ .good) :
    s.giveHealth i (.good, 0) = s.healLamp i := by
  unfold giveHealth
  dsimp only
  rw [if_neg (by cases s.lamps[i].health.failed <;> decide), if_pos ⟨other, rfl⟩]
  rfl

theorem State.giveHealth_failed {s : State} {i : Lamp} (whole : s.lamps[i].health.failed = false) (k : FailureKind) :
    s.giveHealth i (k.health, 0) = s.failLamp i k := by
  unfold giveHealth
  dsimp only
  rw [whole]
  cases k <;> rfl

/-- A mismatch of an undeclared lamp (R115). -/
theorem State.mismatch_eq {s : State} {i : Lamp} (whole : s.lamps[i].health.failed = false) (k : FailureKind) :
    s.mismatch i k = s.giveHealth i (if s.failThreshold ≤ min 15 (s.lamps[i].runCount + 1) then (k.health, 0)
      else (s.lamps[i].health, min 15 (s.lamps[i].runCount + 1))) := by
  unfold mismatch
  dsimp only
  split
  · exact (giveHealth_failed whole k).symm
  · exact (s.giveHealth_run i _).symm

/-- A healthy observation of a declared lamp (R116). -/
theorem State.recovery_eq {s : State} {i : Lamp} (failed : s.lamps[i].health ≠ .good) :
    (if min 15 (s.lamps[i].runCount + 1) ≥ s.recoveryThreshold then s.healLamp i
      else s.setLamp i { s.lamps[i] with runCount := min 15 (s.lamps[i].runCount + 1) }) =
      s.giveHealth i (if s.recoveryThreshold ≤ min 15 (s.lamps[i].runCount + 1) then (.good, 0)
        else (s.lamps[i].health, min 15 (s.lamps[i].runCount + 1))) := by
  split
  · exact (giveHealth_good failed).symm
  · exact (s.giveHealth_run i _).symm

/-- The health decision gives the lamp what the manual's table says. -/
theorem State.judgeLamp_eq (s : State) (i : Lamp) (o : Observation) : s.judgeLamp i o =
    s.giveHealth i (healthAfter s.failThreshold s.recoveryThreshold s.lamps[i].health s.lamps[i].runCount o) := by
  have stays : s = s.giveHealth i (s.lamps[i].health, s.lamps[i].runCount) := by
    rw [giveHealth_run]
    exact (s.setLamp_same i).symm
  cases o with
  | neutral =>
    refine Eq.trans ?_ stays
    unfold judgeLamp
    cases s.lamps[i].health <;> rfl
  | healthy =>
    cases health : s.lamps[i].health with
    | unknown =>
      simp only [judgeLamp, healthAfter, health]
      exact (giveHealth_good (by rw [health]; decide)).symm
    | good =>
      have run := s.giveHealth_run i 0
      simp only [health] at run
      simp only [judgeLamp, healthAfter, health]
      exact run.symm
    | opened | stuck =>
      have recovers := recovery_eq (s := s) (i := i) (by rw [health]; decide)
      simp only [health] at recovers
      simp only [judgeLamp, healthAfter, health]
      exact recovers
    | unsupervised =>
      rw [health] at stays
      simp only [judgeLamp, healthAfter, health]
      exact stays
  | openMismatch | stuckMismatch =>
    cases health : s.lamps[i].health with
    | unknown | good =>
      have fails := fun k => mismatch_eq (s := s) (i := i) (by rw [health]; rfl) k
      simp only [health] at fails
      simp only [judgeLamp, healthAfter, health]
      exact fails _
    | opened | stuck =>
      have run := s.giveHealth_run i 0
      simp only [health] at run
      simp only [judgeLamp, healthAfter, health]
      exact run.symm
    | unsupervised =>
      rw [health] at stays
      simp only [judgeLamp, healthAfter, health]
      exact stays

/-! ### One observation -/

theorem giveHealth_frame (s : State) (i : Lamp) (a : Health × Nat) : s.giveHealth i a = { s with
    lamps := (s.giveHealth i a).lamps, counters := (s.giveHealth i a).counters,
    failures := (s.giveHealth i a).failures, overflow := (s.giveHealth i a).overflow,
    notices := (s.giveHealth i a).notices } := by
  unfold State.giveHealth
  dsimp only
  split
  · rw [State.declare_frame]
    rfl
  · split <;> rfl

theorem giveHealth_lamps (s : State) (i k : Lamp) (a : Health × Nat) : (s.giveHealth i a).lamps[k] =
    if k = i then { s.lamps[i] with health := a.1, runCount := a.2 } else s.lamps[k] := by
  have lamps : (s.giveHealth i a).lamps = (s.setLamp i { s.lamps[i] with health := a.1, runCount := a.2 }).lamps := by
    unfold State.giveHealth
    dsimp only
    split
    · rw [State.declare_frame]
      rfl
    · split <;> rfl
  rw [lamps]
  exact Vector_set_fin _ _ _ _

/-- The health and run count that an observation leaves a lamp whose record is `l`. -/
def State.afterwards (s : State) (i : Lamp) (o : Sensed) (l : LampRecord) : Health × Nat :=
  healthAfter s.failThreshold s.recoveryThreshold l.checked.health l.checked.runCount (classify s.drive[i] o)

/-- What a delivery makes of a lamp's record. -/
def State.observed (s : State) (i : Lamp) (o : Sensed) (l : LampRecord) : LampRecord :=
  if l.checked.attrs.supervised then
    { l.checked with health := (s.afterwards i o l).1, runCount := (s.afterwards i o l).2 }
  else l.checked

/-- What a delivery in the state `s` leaves alone. -/
def Observing (s u : State) : Prop :=
  SameZones s u ∧ u = { s with
    lamps := u.lamps, zones := u.zones, horn := u.horn, fault := u.fault, notices := u.notices, counters := u.counters,
    failures := u.failures, overflow := u.overflow }

/-- An observation is a checking read and, if the lamp is then supervised, the health decision. -/
theorem observe_eq {s u : State} (h : Observing s u) (i : Lamp) (o : Sensed) : u.observe i o =
    if u.lamps[i].checked.attrs.supervised = true then (u.checkLamp i).giveHealth i (s.afterwards i o u.lamps[i])
    else u.checkLamp i := by
  have read : (u.checkLamp i).lamps[i] = u.lamps[i].checked := by rw [State.checkLamp_lamps, if_pos rfl]
  have kept : (u.checkLamp i).drive = s.drive ∧ (u.checkLamp i).failThreshold = s.failThreshold ∧
      (u.checkLamp i).recoveryThreshold = s.recoveryThreshold := by
    rw [State.checkLamp_frame, h.2]
    exact ⟨rfl, rfl, rfl⟩
  obtain ⟨drive, fail, recovery⟩ := kept
  unfold State.observe State.afterwards
  dsimp only
  rw [State.judgeLamp_eq, read, drive, fail, recovery]

theorem observing_checkLamp {s u : State} (h : Observing s u) (i : Lamp) : Observing s (u.checkLamp i) := by
  obtain ⟨zones, frame⟩ := h
  refine ⟨zones.trans (sameZones_checkLamp u i), ?_⟩
  rw [State.checkLamp_frame, frame]

theorem observing_giveHealth {s u : State} (h : Observing s u) (i : Lamp) (a : Health × Nat) :
    Observing s (u.giveHealth i a) := by
  obtain ⟨zones, frame⟩ := h
  refine ⟨zones.trans (.of_eq (by rw [giveHealth_frame])), ?_⟩
  rw [giveHealth_frame, frame]

theorem edits_observe (s : State) (sensed : Lamp → Sensed) :
    Edits (Observing s) (fun u i => u.observe i (sensed i)) fun i l => s.observed i (sensed i) l where
  keeps u i h := by
    rw [observe_eq h]
    split
    · exact observing_giveHealth (observing_checkLamp h i) i _
    · exact observing_checkLamp h i
  record u i k h := by
    rw [observe_eq h]
    unfold State.observed
    split
    · rw [giveHealth_lamps, State.checkLamp_lamps, State.checkLamp_lamps, if_pos rfl]
      split <;> rfl
    · exact u.checkLamp_lamps i k

/-! ### A delivery -/

theorem State.deliver_eq (s : State) (n : StringNo) (sensed : List Sensed) : s.deliver n sensed =
    (lampsFrom (256 * n.val) (8 * s.strings[n].count)).foldl
      (fun u i => u.observe i (sensed.getD (i.val - 256 * n.val) ⟨false, false⟩)) s := by
  rw [deliver, zipIdx_lampsFrom, List.foldl_map]

/-- Whether an observation declares a lamp whose record is `l` failed (R115). -/
def State.declares (s : State) (i : Lamp) (o : Sensed) (l : LampRecord) : Bool :=
  l.checked.attrs.supervised && !l.checked.health.failed && (s.afterwards i o l).1.failed

theorem observes_counters (s : State) (sensed : Lamp → Sensed) {l : List Lamp} (nodup : l.Nodup) (j : CounterNo) :
    (l.foldl (fun u i => u.observe i (sensed i)) s).counters[j] = Counter.bump^[l.countP fun i =>
      s.declares i (sensed i) s.lamps[i] && s.counters[j].counts .lampFailures none (s.zoneOf i.val)] s.counters[j] := by
  rw [(edits_observe s sensed).foldl_part (fun u => u.counters[j]) (fun i rec c =>
    if (s.declares i (sensed i) rec && c.counts .lampFailures none (s.zoneOf i.val)) = true then c.bump else c)
    (fun u i h => ?_) nodup ⟨.of_eq rfl, rfl⟩]
  · exact foldl_bump (fun i : Lamp => s.declares i (sensed i) s.lamps[i]) _ _ (fun i => s.zoneOf i.val) l _
  · show (u.observe i (sensed i)).counters[j] = _
    have zone : (u.checkLamp i).zoneOf i.val = s.zoneOf i.val := (observing_checkLamp h i).1.zoneOf _
    have read : (u.checkLamp i).lamps[i] = u.lamps[i].checked := by rw [State.checkLamp_lamps, if_pos rfl]
    have counters : (u.checkLamp i).counters = u.counters := by rw [State.checkLamp_frame]
    rw [observe_eq h]
    unfold State.declares
    cases supervised : u.lamps[i].checked.attrs.supervised with
    | false =>
      rw [if_neg (by decide), counters]
      rfl
    | true =>
      rw [if_pos rfl, Bool.true_and]
      unfold State.giveHealth
      dsimp only
      rw [read, zone]
      cases declares : !u.lamps[i].checked.health.failed && (s.afterwards i (sensed i) u.lamps[i]).1.failed with
      | false =>
        rw [if_neg (by decide), Bool.false_and, ← counters]
        split <;> rfl
      | true =>
        rw [if_pos rfl, Bool.true_and, State.declare_frame, Fin.getElem_fin, State.report_get, ← counters]
        rfl

/-! ### What a delivery tells the failure list -/

/-- What an observation of a lamp tells the failure list (R115, R116, R125, R126). -/
def State.tells (s : State) (sensed : Lamp → Sensed) (w : State) (i : Lamp) : State :=
  if (!s.lamps[i].checked.attrs.supervised) = true then w
  else if (!s.lamps[i].checked.health.failed && (s.afterwards i (sensed i) s.lamps[i]).1.failed) = true then
    w.declare i (if (s.afterwards i (sensed i) s.lamps[i]).1 = .opened then .opened else .stuck)
  else if s.lamps[i].checked.health ≠ .good ∧ (s.afterwards i (sensed i) s.lamps[i]).1 = .good then w.becameGood i
  else w

/-- Two states that agree in what the failure list holds, in what it is told with, and in the notices but FAULT and HORN. -/
structure SameList (u w : State) : Prop where
  failures   : u.failures = w.failures
  overflow   : u.overflow = w.overflow
  frameCount : u.frameCount = w.frameCount
  routing    : u.routing = w.routing
  notices    : ∀ (p : Port) (k : NoticeKind), k ≠ .fault → k ≠ .horn →
    (u.notices.get p)[k.index] = (w.notices.get p)[k.index]

theorem SameList.checkLamp {u w : State} (h : SameList u w) (i : Lamp) : SameList (u.checkLamp i) w := by
  refine ⟨?_, ?_, ?_, ?_, fun p k fault horn => (u.checkLamp_get i p fault horn).trans (h.notices p k fault horn)⟩ <;>
    rw [State.checkLamp_frame]
  · exact h.failures
  · exact h.overflow
  · exact h.frameCount
  · exact h.routing

theorem SameList.becameGood {u w : State} (h : SameList u w) (i : Lamp) : SameList (u.becameGood i) (w.becameGood i) where
  failures := by
    unfold State.becameGood
    rw [h.failures]
  overflow := h.overflow
  frameCount := h.frameCount
  routing := h.routing
  notices := h.notices

theorem SameList.raise {u w : State} (h : SameList u w) (k : NoticeKind) : SameList (u.raise k) (w.raise k) where
  failures := h.failures
  overflow := h.overflow
  frameCount := h.frameCount
  routing := h.routing
  notices p j fault horn := by rw [State.raise_get, State.raise_get, h.notices p j fault horn, h.routing]

theorem SameList.report {u w : State} (h : SameList u w) (e : CounterEvent) (p : Option Port) (z : Option ZoneNo) :
    SameList (u.report e p z) w :=
  ⟨h.failures, h.overflow, h.frameCount, h.routing, h.notices⟩

theorem SameList.declare {u w : State} (h : SameList u w) (i : Lamp) (k : FailureKind) :
    SameList (u.declare i k) (w.declare i k) := by
  unfold State.declare
  rw [h.failures, h.frameCount]
  refine SameList.raise ?_ .failure
  split
  · exact ⟨rfl, h.overflow, rfl, h.routing, h.notices⟩
  · split
    · exact ⟨rfl, h.overflow, rfl, h.routing, h.notices⟩
    · exact ⟨rfl, rfl, rfl, h.routing, h.notices⟩

theorem SameList.observe {s u w : State} (kept : Observing s u) (h : SameList u w) (sensed : Lamp → Sensed) {i : Lamp}
    (unread : u.lamps[i] = s.lamps[i]) : SameList (u.observe i (sensed i)) (s.tells sensed w i) := by
  have read : (u.checkLamp i).lamps[i] = s.lamps[i].checked := by rw [State.checkLamp_lamps, if_pos rfl, unread]
  rw [observe_eq kept, unread]
  unfold State.tells
  cases s.lamps[i].checked.attrs.supervised with
  | false => exact h.checkLamp i
  | true =>
    rw [if_pos rfl, if_neg (by decide)]
    unfold State.giveHealth
    dsimp only
    rw [read]
    have same : SameList ((u.checkLamp i).setLamp i { s.lamps[i].checked with
        health := (s.afterwards i (sensed i) s.lamps[i]).1, runCount := (s.afterwards i (sensed i) s.lamps[i]).2 }) w :=
      have ⟨failures, overflow, frameCount, routing, notices⟩ := h.checkLamp i
      ⟨failures, overflow, frameCount, routing, notices⟩
    split
    · exact (same.report _ _ _).declare i _
    · split
      · exact same.becameGood i
      · exact same

theorem SameList.observes {s u w : State} (sensed : Lamp → Sensed) {l : List Lamp} (nodup : l.Nodup)
    (kept : Observing s u) (unread : ∀ i ∈ l, u.lamps[i] = s.lamps[i]) (h : SameList u w) :
    SameList (l.foldl (fun u i => u.observe i (sensed i)) u) (l.foldl (s.tells sensed) w) := by
  induction l generalizing u w with
  | nil => exact h
  | cons i is ih =>
    obtain ⟨fresh, nodup⟩ := List.nodup_cons.1 nodup
    refine ih nodup ((edits_observe s sensed).keeps u i kept) (fun k mem => ?_)
      (h.observe kept sensed (unread i List.mem_cons_self))
    have other : k ≠ i := fun same => fresh (by rw [← same]; exact mem)
    rw [(edits_observe s sensed).record u i k kept, if_neg other]
    exact unread k (List.mem_cons_of_mem i mem)

/-- Settles O47. -/
theorem deliveryJudgesEachLamp : Obligations.DeliveryJudgesEachLamp := by
  intro s n sensed t on read after failed
  have nodup := lampsFrom_nodup (256 * n.val) (8 * s.strings[n].count)
  have start : Observing s s := ⟨.of_eq rfl, rfl⟩
  have edits := edits_observe s fun i => sensed.getD (i.val - 256 * n.val) ⟨false, false⟩
  have delivered : t = _ := s.deliver_eq n sensed
  have mem (i : Lamp) : i ∈ lampsFrom (256 * n.val) (8 * s.strings[n].count) ↔ on i := mem_lampsFrom _ _ i
  rw [delivered]
  refine ⟨(edits.keeps_foldl _ start).2, fun i here => ?_, fun i away => ?_, fun j => ?_, ?_⟩
  · rw [edits.foldl nodup start, if_pos ((mem i).2 here)]
    rfl
  · rw [edits.foldl nodup start, if_neg (mt (mem i).1 away)]
  · rw [observes_counters s _ nodup]
    rfl
  · intro told
    have same : SameList _ told := SameList.observes (fun i => sensed.getD (i.val - 256 * n.val) ⟨false, false⟩) nodup start
      (fun _ _ => rfl) ⟨rfl, rfl, rfl, rfl, fun _ _ _ _ => rfl⟩
    exact ⟨same.failures, same.overflow, same.notices⟩

/-- Settles O46. -/
theorem chainAnswerDecidesTheString : Obligations.ChainAnswerDecidesTheString := by
  intro s n answering sensed upsets left awake progress mem a u
  have runs : exec (.stringFrameEnd n answering sensed upsets) s = .next (u.answer n answering sensed) := by
    show Host.Outcome.next _ = _
    rw [awake, progress]
    exact congrArg Host.Outcome.next (if_pos mem)
  have strings : u.strings = s.strings := by
    show (s.land upsets).strings = _
    rw [State.land_frame]
  refine ⟨fun intact => ⟨_, runs.trans (congrArg Host.Outcome.next ?_), rfl, ?_⟩, fun broken => ?_⟩
  · unfold State.answer
    dsimp only
    rw [strings, if_pos intact]
  · rw [(deliveryJudgesEachLamp _ n sensed).1]
    exact congrArg (Vector.set · n.val _ n.isLt) strings
  · intro v
    rw [runs]
    unfold State.answer
    dsimp only
    rw [strings, if_neg broken]

end Sys2Proof.Machine
end

section
/-! SUPPORT. Module counts put in force (6.4), and the picture of a frame (5.3 to 5.5, 6.2). -/

namespace Sys2Proof.Machine

/-! ### Lamps removed from the drive (R111, R127) -/

/-- The record of a lamp removed from the drive: it is read, and then its health and run count start anew. -/
def LampRecord.removed (l : LampRecord) : LampRecord :=
  { l.checked with health := if l.checked.attrs.supervised then .unknown else l.checked.health, runCount := 0 }

theorem edits_removeLamp : Edits (fun _ => True) State.removeLamp fun _ l => l.removed where
  keeps _ _ h := h
  record s i k _ := by
    have read : (s.checkLamp i).lamps[i] = s.lamps[i].checked := by rw [State.checkLamp_lamps, if_pos rfl]
    unfold State.removeLamp
    dsimp only
    rw [State.dropFailure_frame, read]
    refine (Vector_set_fin (s.checkLamp i).lamps i k _).trans ?_
    split
    · rfl
    · rename_i other
      rw [State.checkLamp_lamps, if_neg other]

theorem removeLamps_failures (l : List Lamp) (s : State) :
    (l.foldl State.removeLamp s).failures = s.failures.filter fun e => e.lamp ∉ l := by
  induction l generalizing s with
  | nil => simp
  | cons i is ih =>
    rw [List.foldl_cons, ih, State.removeLamp_failures, List.filter_filter]
    refine List.filter_congr fun e _ => ?_
    simp only [List.mem_cons, not_or, Bool.decide_and, ne_eq, Bool.and_comm]

/-- The lamps on the modules that leave the drive. -/
theorem mem_removed (n : StringNo) (count old : Nat) (i : Lamp) :
    i ∈ lampsFrom (256 * n.val + 8 * count) (8 * (old - count)) ↔
      256 * n.val + 8 * count ≤ i.val ∧ i.val < 256 * n.val + 8 * old := by
  rw [mem_lampsFrom]
  omega

theorem putInForce_lamps (s : State) (n : StringNo) (count : Nat) (i : Lamp) : (s.putInForce n count).lamps[i] =
    if 256 * n.val + 8 * count ≤ i.val ∧ i.val < 256 * n.val + 8 * s.strings[n].count then s.lamps[i].removed
    else s.lamps[i] := by
  unfold State.putInForce
  dsimp only
  rw [edits_removeLamp.foldl (lampsFrom_nodup _ _) trivial]
  exact if_congr (mem_removed n count _ i) rfl rfl

theorem putInForce_failures (s : State) (n : StringNo) (count : Nat) : (s.putInForce n count).failures =
    s.failures.filter fun e => !(256 * n.val + 8 * count ≤ e.lamp.val && e.lamp.val < 256 * n.val + 8 * s.strings[n].count) := by
  unfold State.putInForce
  dsimp only
  rw [removeLamps_failures]
  refine List.filter_congr fun e _ => ?_
  simp only [mem_removed, Bool.decide_and, decide_not]

section setString
variable {p : Port} {u : State} {b : Byte} {n : StringNo}

theorem judgeSetString_dark (telemetry : p ≠ .d) (known : stringNoOf? b = some n) (dark : u.scan = .dark) (m : Byte) :
    judgeSetString p u (b, m) =
      (u.putInForce n (min 32 m.toNat), .done [b, byte (min 32 m.toNat), Config.stringInForce]) := by
  unfold judgeSetString
  rw [State.unless_telemetry_of_ne telemetry]
  simp only [known, clamp_zero, dark]

theorem judgeSetString_running (telemetry : p ≠ .d) (known : stringNoOf? b = some n) (running : u.scan = .running)
    (m : Byte) : judgeSetString p u (b, m) = (u.setString n { u.strings[n] with pending := some (min 32 m.toNat) },
      .done [b, byte (min 32 m.toNat), Config.stringPending]) := by
  unfold judgeSetString
  rw [State.unless_telemetry_of_ne telemetry]
  simp only [known, clamp_zero, running]

end setString

/-- Settles O49: a module count put in force is the edit of the removed lamps, one after another. -/
theorem moduleCountsAreSetAndPutInForce : Obligations.ModuleCountsAreSetAndPutInForce := by
  refine ⟨fun s p tag b m upsets telemetry => ?_, fun s n count => ?_⟩
  · intro c cmd taken head
    have scan : taken.scan = s.scan := by
      show ((s.land upsets).takeHead p).scan = _
      rw [State.land_takeHead]
      rfl
    have strings : taken.strings = s.strings := by
      show ((s.land upsets).takeHead p).strings = _
      rw [State.land_takeHead]
      rfl
    refine ⟨fun high => ?_, fun n number => ?_⟩
    · have bad : stringNoOf? b = none := dif_neg (by omega)
      refine exec_judged_landed rfl head rfl rfl ?_
      show taken.unless (telemetryOnly p) _ = _
      rw [State.unless_telemetry_of_ne telemetry]
      simp only [bad]
      rfl
    · have known : stringNoOf? b = some n := by
        unfold stringNoOf?
        rw [dif_pos (by omega)]
        exact congrArg some (Fin.ext number.symm)
      refine ⟨fun dark => exec_judged_landed rfl head rfl rfl ?_, fun running => exec_judged_landed rfl head rfl rfl ?_⟩
      · exact judgeSetString_dark telemetry known (scan.trans dark) m
      · have judged := judgeSetString_running telemetry known (scan.trans running) m
        rw [strings] at judged
        exact judged
  · intro t old removed
    have frame := s.putInForce_frame n count
    have strings : t.strings = s.strings.set n.val (old.withCount count) n.isLt := congrArg State.strings frame
    refine ⟨?_, strings, fun i gone => ?_, fun i stays => ?_, fun e => ?_, ?_⟩
    · rw [strings]
      exact frame
    · exact (putInForce_lamps s n count i).trans (if_pos gone)
    · exact (putInForce_lamps s n count i).trans (if_neg stays)
    · show e ∈ (s.putInForce n count).failures ↔ _
      rw [putInForce_failures, List.mem_filter]
      refine and_congr_right fun _ => ?_
      rw [Bool.not_eq_true', ← Bool.not_eq_true, Bool.and_eq_true, decide_eq_true_eq, decide_eq_true_eq]
    · show (s.putInForce n count).failures.Sublist _
      rw [putInForce_failures]
      exact List.filter_sublist

/-! ### Frame starts: the reads (R86) -/

/-- Every record agrees with its check code. -/
def Clean (s : State) : Prop := ∀ i : Lamp, s.lamps[i].integrity = .clean

theorem LampRecord.checked_clean (l : LampRecord) : l.checked.integrity = .clean := by
  unfold checked
  cases h : l.integrity with
  | clean => exact h
  | single => rfl
  | double => rfl

theorem LampRecord.checked_of_clean {l : LampRecord} (h : l.integrity = .clean) : l.checked = l := by
  rw [checked, h]

/-- A record that was read, or agreed with its check code before, agrees after some reads. -/
theorem checkLamps_clean_after (l : List Lamp) (s : State) (i : Lamp) (h : i ∈ l ∨ s.lamps[i].integrity = .clean) :
    (s.checkLamps l).lamps[i].integrity = .clean := by
  induction l generalizing s with
  | nil => exact h.resolve_left (List.not_mem_nil)
  | cons k ks ih =>
    refine ih (s.checkLamp k) ?_
    rw [State.checkLamp_lamps]
    by_cases here : i = k
    · rw [if_pos here]
      exact .inr (LampRecord.checked_clean _)
    · rw [if_neg here]
      exact h.imp_left fun mem => (List.mem_cons.1 mem).resolve_left here

theorem mem_insertByRank (rank : Nat → Nat) (i k : Lamp) (l : List Lamp) : k ∈ insertByRank rank i l ↔ k = i ∨ k ∈ l := by
  induction l with
  | nil => simp [insertByRank]
  | cons x xs ih =>
    unfold insertByRank
    split
    · rw [List.mem_cons]
    · rw [List.mem_cons, ih, List.mem_cons]
      exact or_left_comm

theorem mem_readOrder (rank : Nat → Nat) (l : List Lamp) (k : Lamp) : k ∈ l.foldr (insertByRank rank) [] ↔ k ∈ l := by
  induction l with
  | nil => rfl
  | cons x xs ih => rw [List.foldr_cons, mem_insertByRank, ih, List.mem_cons]

theorem State.mem_flawed (s : State) (i : Lamp) (h : s.lamps[i].integrity ≠ .clean) : i ∈ s.flawed := by
  refine List.mem_filterMap.2 ⟨(s.lamps[i], i.val), ?_, ?_⟩
  · rw [List.mem_zipIdx_iff_getElem?, List.getElem?_eq_getElem (by simp)]
    simp
  · exact (if_neg h).trans (lampOf?_some rfl)

/-- The reads of a frame start leave every record in agreement with its check code. -/
theorem frameReads_clean (s : State) : Clean s.frameReads := fun i => by
  refine checkLamps_clean_after _ s i ?_
  by_cases clean : s.lamps[i].integrity = .clean
  · exact .inr clean
  · exact .inl ((mem_readOrder _ _ i).2 (s.mem_flawed i clean))

/-! ### Frame starts: pending module counts (R106, R110) -/

/-- Removals of lamps whose records agree with their check codes raise no fault and touch no zone and no horn. -/
def Forcing (v u : State) : Prop :=
  Clean u ∧ u = { v with lamps := u.lamps, failures := u.failures, strings := u.strings }

theorem LampRecord.removed_clean (l : LampRecord) : l.removed.integrity = .clean := l.checked_clean

theorem LampRecord.removed_removed (l : LampRecord) : l.removed.removed = l.removed := by
  have read : l.removed.checked = l.removed := checked_of_clean l.removed_clean
  have again : l.removed.removed = { l.removed with
      health := if l.removed.attrs.supervised then .unknown else l.removed.health, runCount := 0 } := by
    rw [removed, read]
  rw [again]
  unfold removed
  dsimp only
  split <;> rfl

theorem forcing_removeLamp {v u : State} (h : Forcing v u) (i : Lamp) : Forcing v (u.removeLamp i) := by
  obtain ⟨clean, frame⟩ := h
  refine ⟨fun k => ?_, ?_⟩
  · rw [edits_removeLamp.record u i k trivial]
    split
    · exact LampRecord.removed_clean _
    · exact clean k
  · unfold State.removeLamp
    dsimp only
    rw [State.checkLamp_clean (clean i), State.dropFailure_frame, frame]
    rfl

theorem forcing_putInForce {v u : State} (h : Forcing v u) (n : StringNo) (count : Nat) : Forcing v (u.putInForce n count) := by
  have removals : ∀ (l : List Lamp) {w : State}, Forcing v w → Forcing v (l.foldl State.removeLamp w) := by
    intro l
    induction l with
    | nil => exact fun h => h
    | cons i is ih => exact fun h => ih (forcing_removeLamp h i)
  obtain ⟨clean, frame⟩ := h
  refine removals _ ⟨clean, ?_⟩
  rw [frame]
  rfl

/-- One string's part in putting the pending module counts in force. -/
def State.forceString (s : State) (n : StringNo) : State :=
  match s.strings[n].pending with
  | none => s
  | some count => s.putInForce n count

theorem State.forcePending_eq (s : State) : s.forcePending = (List.finRange 16).foldl State.forceString s := rfl

/-- Whether a lamp is on a module of a string that its pending module count takes away. -/
def StringRecord.loses (r : StringRecord) (n : StringNo) (i : Lamp) : Bool :=
  r.pending.any fun count => 256 * n.val + 8 * count ≤ i.val && i.val < 256 * n.val + 8 * r.count

/-- A string's record once its pending module count, if it has one, is in force. -/
def StringRecord.forced (r : StringRecord) : StringRecord :=
  match r.pending with
  | none => r
  | some count => r.withCount count

section force
variable {s : State} {n : StringNo}

theorem State.forceString_none (h : s.strings[n].pending = none) : s.forceString n = s := by rw [forceString, h]

theorem State.forceString_some {count : Nat} (h : s.strings[n].pending = some count) :
    s.forceString n = s.putInForce n count := by rw [forceString, h]

theorem StringRecord.forced_none {r : StringRecord} (h : r.pending = none) : r.forced = r := by rw [forced, h]

theorem StringRecord.forced_some {r : StringRecord} {count : Nat} (h : r.pending = some count) :
    r.forced = r.withCount count := by rw [forced, h]

theorem StringRecord.loses_none {r : StringRecord} (h : r.pending = none) (i : Lamp) : r.loses n i = false := by
  rw [loses, h, Option.any_none]

theorem StringRecord.loses_some {r : StringRecord} {count : Nat} (h : r.pending = some count) (i : Lamp) :
    r.loses n i = (256 * n.val + 8 * count ≤ i.val && i.val < 256 * n.val + 8 * r.count) := by
  rw [loses, h, Option.any_some]

theorem forcing_forceString {v u : State} (h : Forcing v u) (n : StringNo) : Forcing v (u.forceString n) := by
  cases pending : u.strings[n].pending with
  | none => rw [State.forceString_none pending]; exact h
  | some count => rw [State.forceString_some pending]; exact forcing_putInForce h n count

theorem forceString_lamps (s : State) (n : StringNo) (i : Lamp) : (s.forceString n).lamps[i] =
    if s.strings[n].loses n i = true then s.lamps[i].removed else s.lamps[i] := by
  cases pending : s.strings[n].pending with
  | none =>
    rw [State.forceString_none pending, StringRecord.loses_none pending]
    rfl
  | some count =>
    rw [State.forceString_some pending]
    refine (putInForce_lamps s n count i).trans (if_congr ?_ rfl rfl)
    rw [StringRecord.loses_some pending, Bool.and_eq_true, decide_eq_true_eq, decide_eq_true_eq]

theorem forceString_failures (s : State) (n : StringNo) : (s.forceString n).failures =
    s.failures.filter fun e => !s.strings[n].loses n e.lamp := by
  cases pending : s.strings[n].pending with
  | none =>
    simp only [State.forceString_none pending, StringRecord.loses_none pending, Bool.not_false, List.filter_true]
  | some count =>
    simp only [State.forceString_some pending, StringRecord.loses_some pending]
    exact putInForce_failures s n count

theorem forceString_strings (s : State) (n m : StringNo) : (s.forceString n).strings[m] =
    if m = n then s.strings[n].forced else s.strings[m] := by
  cases pending : s.strings[n].pending with
  | none =>
    rw [State.forceString_none pending, StringRecord.forced_none pending]
    split
    · subst m; rfl
    · rfl
  | some count =>
    rw [State.forceString_some pending, StringRecord.forced_some pending, State.putInForce_frame]
    exact Vector_set_fin _ _ _ _

/-- Whether a lamp is taken out of the drive by the pending module counts of some strings. -/
def State.leaves (u : State) (l : List StringNo) (i : Lamp) : Bool := l.any fun n => u.strings[n].loses n i

theorem State.leaves_cons (u : State) (n : StringNo) (ns : List StringNo) (i : Lamp) :
    u.leaves (n :: ns) i = (u.strings[n].loses n i || u.leaves ns i) := List.any_cons

/-- The pending module counts of the other strings stay. -/
theorem forceString_leaves {u : State} {n : StringNo} {ns : List StringNo} (fresh : n ∉ ns) (i : Lamp) :
    (u.forceString n).leaves ns i = u.leaves ns i := by
  rw [Bool.eq_iff_iff]
  unfold State.leaves
  rw [List.any_eq_true, List.any_eq_true]
  refine exists_congr fun m => and_congr_right fun mem => ?_
  have other : m ≠ n := fun same => fresh (by rw [← same]; exact mem)
  rw [forceString_strings, if_neg other]

/-- Pending module counts put in force for some strings, one after another. -/
theorem forceStrings (l : List StringNo) (nodup : l.Nodup) {v u : State} (h : Forcing v u) :
    Forcing v (l.foldl State.forceString u) ∧
    (∀ i : Lamp, (l.foldl State.forceString u).lamps[i] =
      if u.leaves l i = true then u.lamps[i].removed else u.lamps[i]) ∧
    ((l.foldl State.forceString u).failures = u.failures.filter fun e => !u.leaves l e.lamp) ∧
    ∀ m : StringNo, (l.foldl State.forceString u).strings[m] =
      if m ∈ l then u.strings[m].forced else u.strings[m] := by
  induction l generalizing u with
  | nil => exact ⟨h, fun _ => rfl, (List.filter_true _).symm, fun _ => by simp⟩
  | cons n ns ih =>
    obtain ⟨fresh, nodup⟩ := List.nodup_cons.1 nodup
    obtain ⟨forced, lamps, failures, strings⟩ := ih nodup (forcing_forceString h n)
    refine ⟨forced, fun i => ?_, ?_, fun m => ?_⟩
    · rw [List.foldl_cons, lamps, forceString_lamps, forceString_leaves fresh, State.leaves_cons]
      cases u.strings[n].loses n i <;> cases u.leaves ns i
      · rfl
      · rfl
      · rfl
      · exact LampRecord.removed_removed _
    · rw [List.foldl_cons, failures, forceString_failures, List.filter_filter]
      refine List.filter_congr fun e _ => ?_
      rw [forceString_leaves fresh, State.leaves_cons, Bool.not_or, Bool.and_comm]
    · rw [List.foldl_cons, strings, forceString_strings]
      by_cases same : m = n
      · subst m
        rw [if_neg fresh, if_pos rfl, if_pos List.mem_cons_self]
      · simp only [same, if_false, List.mem_cons, false_or]

end force

end Sys2Proof.Machine
end

section
/-! SUPPORT. The picture of a frame (5.3 to 5.5, 6.2). -/

namespace Sys2Proof.Machine

/-! ### Frame starts: the picture (R86, R90, R102, R103) -/

/-- The state of a frame start in which the pending module counts are put in force. -/
def State.pictured (s : State) : State := s.frameReads.takeSnapshot.draw

theorem pictured_frame (s : State) : s.pictured = { s.frameReads with
    lamps := s.pictured.lamps, snapshot := s.frameReads.takeSnapshot.snapshot, drive := s.pictured.drive } := by
  unfold State.pictured State.draw
  rw [State.takeSnapshot_frame]

theorem drawn_getElem (s : State) (i : Lamp) : s.drawn[i] = if s.session = .off then s.snapshot[i] else ⟨.lit, 16⟩ := by
  unfold State.drawn
  split
  · rw [if_pos ‹_›]
  · rename_i on
    rw [if_neg (by rw [on]; exact fun h => by cases h)]
    exact Vector.getElem_replicate _

theorem pictured_lamps (s : State) (i : Lamp) : s.pictured.lamps[i] =
    { s.frameReads.lamps[i] with rendering := s.frameReads.takeSnapshot.drawn[i] } := by
  unfold State.pictured State.draw
  rw [Fin.getElem_fin, bankZip_getElem, State.takeSnapshot_frame]
  rfl

theorem pictured_drive (s : State) (i : Lamp) : s.pictured.drive[i] =
    s.frameReads.takeSnapshot.driveCount s.frameReads.takeSnapshot.drawn[i] := by
  unfold State.pictured State.draw
  rw [Fin.getElem_fin, bankMap_getElem]
  rfl

theorem isOn_iff (s : State) (a : Aspect) : s.isOn a = true ↔
    a = .lit ∨ (a = .slow ∧ 2 * s.slowPhase < s.timing.slow) ∨ (a = .fast ∧ 2 * s.fastPhase < s.timing.fast) := by
  cases a <;> simp [State.isOn]

theorem pictured_clean (s : State) : Clean s.pictured := fun i => by
  rw [pictured_lamps]
  exact frameReads_clean s i

theorem pictured_strings (s : State) : s.pictured.strings = s.strings := by
  rw [pictured_frame, State.frameReads_frame]

theorem pictured_failures (s : State) : s.pictured.failures = s.failures := by
  rw [pictured_frame, State.frameReads_frame]

theorem pictured_timing (s : State) : s.pictured.timing = s.timing := by
  rw [pictured_frame, State.frameReads_frame]

theorem pictured_leaves (s : State) (l : List StringNo) (i : Lamp) : s.pictured.leaves l i = s.leaves l i := by
  unfold State.leaves
  rw [pictured_strings]

/-- A frame start is its picture with the pending module counts put in force, and its timers. -/
theorem beginFrame_eq (s : State) : s.beginFrame =
    { s.pictured.forcePending with progress := .driving 0, nextFrame := some s.timing.period } := by
  have period : s.pictured.forcePending.timing = s.timing := by
    rw [State.forcePending_frame]
    exact pictured_timing s
  unfold State.beginFrame
  rw [show s.frameReads.takeSnapshot.draw = s.pictured from rfl]
  dsimp only
  rw [period]

/-- The pending module counts of all strings put in force one after another, over records just read. -/
theorem forcePending_parts (s : State) :
    Forcing s.pictured s.pictured.forcePending ∧
    (∀ i : Lamp, s.pictured.forcePending.lamps[i] =
      if s.leaves (List.finRange 16) i = true then s.pictured.lamps[i].removed else s.pictured.lamps[i]) ∧
    (s.pictured.forcePending.failures = s.failures.filter fun e => !s.leaves (List.finRange 16) e.lamp) ∧
    ∀ n : StringNo, s.pictured.forcePending.strings[n] = s.strings[n].forced := by
  obtain ⟨forced, lamps, failures, strings⟩ := forceStrings (List.finRange 16) (List.nodup_finRange 16)
    (v := s.pictured) (u := s.pictured) ⟨pictured_clean s, rfl⟩
  rw [← State.forcePending_eq] at forced lamps failures strings
  refine ⟨forced, fun i => ?_, ?_, fun n => ?_⟩
  · rw [lamps, pictured_leaves]
  · rw [failures, pictured_failures]
    simp only [pictured_leaves]
  · rw [strings, if_pos (List.mem_finRange n), pictured_strings]

/-- A frame start touches only records and what reads of records touch, the picture, strings and failures, and its
own progress. -/
theorem beginFrame_frame (s : State) : s.beginFrame = { s with
    lamps := s.beginFrame.lamps, zones := s.frameReads.zones, horn := s.frameReads.horn, fault := s.frameReads.fault
    notices := s.frameReads.notices, snapshot := s.beginFrame.snapshot, drive := s.beginFrame.drive
    failures := s.beginFrame.failures, strings := s.beginFrame.strings
    progress := .driving 0, nextFrame := some s.timing.period } := by
  obtain ⟨⟨-, forced⟩, -⟩ := forcePending_parts s
  have whole := beginFrame_eq s
  have picture := pictured_frame s
  have reads := s.frameReads_frame
  generalize s.beginFrame = t at whole ⊢
  generalize s.pictured.forcePending = f at whole forced
  generalize s.pictured = p at forced picture
  generalize s.frameReads.takeSnapshot.snapshot = v at picture
  generalize s.frameReads = r at picture reads ⊢
  rw [whole, forced, picture, reads]

theorem beginFrame_snapshot (s : State) : s.beginFrame.snapshot = s.frameReads.takeSnapshot.snapshot := by
  obtain ⟨⟨-, forced⟩, -⟩ := forcePending_parts s
  rw [beginFrame_eq, forced, pictured_frame]

theorem beginFrame_drive (s : State) : s.beginFrame.drive = s.pictured.drive := by
  obtain ⟨⟨-, forced⟩, -⟩ := forcePending_parts s
  rw [beginFrame_eq, forced]

theorem snapshot_free {s : State} (free : s.hold = .free) (i : Lamp) :
    s.takeSnapshot.snapshot[i] = s.resolve i.val s.lamps[i] := by
  unfold State.takeSnapshot
  rw [free]
  exact bankMap_getElem _ _ _ _

theorem snapshot_held {s : State} (held : s.hold ≠ .free) : s.takeSnapshot = s := by
  unfold State.takeSnapshot
  split
  · rename_i free
    exact absurd free held
  · rfl

theorem frameReads_hold (s : State) : s.frameReads.hold = s.hold := by rw [State.frameReads_frame]

theorem frameReads_session (s : State) : s.frameReads.takeSnapshot.session = s.session := by
  rw [State.takeSnapshot_frame, State.frameReads_frame]

/-- Removing a lamp just read leaves its rendering and puts its health and its run count back. -/
theorem LampRecord.removed_of_clean {l : LampRecord} (h : l.integrity = .clean) : l.removed =
    { l with health := if l.attrs.supervised then .unknown else l.health, runCount := 0 } := by
  rw [removed, checked_of_clean h]

theorem LampRecord.removed_if {l : LampRecord} (h : l.integrity = .clean) {d : Rendering} (leaves : Bool) :
    (if leaves = true then { l with rendering := d }.removed else { l with rendering := d }) = { l with
      rendering := d
      health := if leaves && l.attrs.supervised then .unknown else l.health
      runCount := if leaves then 0 else l.runCount } := by
  rw [removed_of_clean (l := { l with rendering := d }) h]
  cases leaves <;> rfl

theorem beginFrame_bank (s : State) : s.beginFrame.lamps = s.pictured.forcePending.lamps := by rw [beginFrame_eq]

theorem beginFrame_strings (s : State) : s.beginFrame.strings = s.pictured.forcePending.strings := by rw [beginFrame_eq]

theorem beginFrame_failures (s : State) : s.beginFrame.failures = s.pictured.forcePending.failures := by
  rw [beginFrame_eq]

theorem beginFrame_clean (s : State) (i : Lamp) : s.beginFrame.lamps[i].integrity = .clean := by
  obtain ⟨⟨clean, -⟩, -⟩ := forcePending_parts s
  rw [beginFrame_bank]
  exact clean i

/-- A lamp's record after a frame start: the record read, with its rendering, and removed if its module was taken away. -/
theorem beginFrame_lamps (s : State) (i : Lamp) :
    let r := s.frameReads
    let leaves := s.leaves (List.finRange 16) i
    s.beginFrame.lamps[i] = { r.lamps[i] with
      rendering := r.takeSnapshot.drawn[i]
      health := if leaves && r.lamps[i].attrs.supervised then .unknown else r.lamps[i].health
      runCount := if leaves then 0 else r.lamps[i].runCount } := by
  intro r leaves
  obtain ⟨-, lamps, -⟩ := forcePending_parts s
  rw [beginFrame_bank, lamps, pictured_lamps]
  exact LampRecord.removed_if (frameReads_clean s i) leaves

/-- Settles O43: reads, picture and pending module counts in their order; a removed lamp was just read, so its removal reads clean. -/
theorem frameStartDrawsThePicture : Obligations.FrameStartDrawsThePicture := by
  refine ⟨fun s upsets awake running answered => exec_frameStart upsets awake running answered, fun s => ?_⟩
  intro r t drawn on leaves
  obtain ⟨-, -, failures, strings⟩ := forcePending_parts s

  have rendering (i : Lamp) : r.takeSnapshot.drawn[i] = drawn i := by
    rw [drawn_getElem, frameReads_session, ← beginFrame_snapshot]
  have drive (i : Lamp) : t.drive[i] = if r.takeSnapshot.isOn (drawn i).aspect then (drawn i).count else 0 := by
    rw [show t.drive = _ from beginFrame_drive s, pictured_drive, rendering]
    rfl
  have lit (a : Aspect) : r.takeSnapshot.isOn a = true ↔ on a := by
    rw [isOn_iff, State.takeSnapshot_frame]
    show _ ∨ (_ ∧ 2 * s.frameReads.slowPhase < s.frameReads.timing.slow) ∨
      (_ ∧ 2 * s.frameReads.fastPhase < s.frameReads.timing.fast) ↔ _
    rw [State.frameReads_frame]
  refine ⟨beginFrame_frame s, fun free i => ?_, fun held => ?_, fun i => ⟨?_, ?_, fun shown => ?_, fun dark => ?_⟩,
    fun n => ?_, ?_⟩
  · rw [show t.snapshot = _ from beginFrame_snapshot s]
    exact snapshot_free ((frameReads_hold s).trans free) i
  · rw [show t.snapshot = _ from beginFrame_snapshot s, snapshot_held (by rw [frameReads_hold]; exact held),
      State.frameReads_frame]
  · exact beginFrame_clean s i
  · rw [← rendering]
    exact beginFrame_lamps s i
  · rw [drive, if_pos ((lit _).2 shown)]
  · rw [drive, if_neg (mt (lit _).1 dark)]
  · rw [show t.strings = _ from beginFrame_strings s, strings]
    cases pending : s.strings[n].pending with
    | none => exact StringRecord.forced_none pending
    | some count => exact StringRecord.forced_some pending
  · exact (beginFrame_failures s).trans failures

end Sys2Proof.Machine
end

section
/-! SUPPORT. The lapse of a port and the expiry of its silence timer (3.1, 3.2). -/

namespace Sys2Proof.Machine

/-! ### What the zones' part in a lapse notifies and counts (R50) -/

/-- One zone's part in a lapse leaves every other zone. -/
theorem State.lapseZone_zones_other (p : Port) (s : State) {z y : ZoneNo} (other : y ≠ z) :
    (State.lapseZone p s z).zones[y] = s.zones[y] := by
  unfold lapseZone
  split
  · exact (Vector_set_fin _ _ _ _).trans (if_neg other)
  · rfl

/-- A raise, told by the routing of the kind looked at. -/
theorem State.raise_get_routed (s : State) (k j : NoticeKind) (p : Port) : ((s.raise k).notices.get p)[j.index] =
    ((s.notices.get p)[j.index] || (decide (j = k) && (s.routing[j.index]).get p)) := by
  rw [raise_get]
  by_cases same : j = k
  · rw [same]
  · rw [decide_eq_false same, Bool.false_and, Bool.false_and]

theorem State.lapseZone_notices (p : Port) (s : State) (z : ZoneNo) (q : Port) (k : NoticeKind) :
    ((State.lapseZone p s z).notices.get q)[k.index] = ((s.notices.get q)[k.index] ||
      (decide (k = .lapse) && (s.routing[k.index]).get q && decide (s.zones[z].owner = some p))) := by

  unfold lapseZone
  split
  · rename_i owned
    rw [decide_eq_true owned, Bool.and_true]
    exact raise_get_routed _ _ _ _
  · rename_i other
    rw [decide_eq_false other, Bool.and_false, Bool.or_false]

theorem State.lapseZone_counters (p : Port) (s : State) (z : ZoneNo) (j : CounterNo) :
    (State.lapseZone p s z).counters[j] =
      if (decide (s.zones[z].owner = some p) && s.counters[j].counts .zoneLapses (some p) (some z)) = true then
        s.counters[j].bump else s.counters[j] := by
  unfold lapseZone
  split
  · rename_i owned
    rw [decide_eq_true owned, Bool.true_and]
    exact report_get _ _ _ _ _ _
  · rename_i other
    rw [decide_eq_false other, Bool.false_and]
    rfl

/-- The zones' part in a lapse raises LAPSE if the port owns one of them. -/
theorem State.lapseZones_notices (p : Port) (mine : ZoneNo → Bool) (l : List ZoneNo) (nodup : l.Nodup) (s : State)
    (owns : ∀ z ∈ l, mine z = decide (s.zones[z].owner = some p)) (q : Port) (k : NoticeKind) :
    ((l.foldl (State.lapseZone p) s).notices.get q)[k.index] = ((s.notices.get q)[k.index] ||
      (decide (k = .lapse) && (s.routing[k.index]).get q && l.any mine)) := by
  induction l generalizing s with
  | nil => simp
  | cons z zs ih =>
    obtain ⟨fresh, nodup⟩ := List.nodup_cons.1 nodup
    have later : ∀ y ∈ zs, mine y = decide ((State.lapseZone p s z).zones[y].owner = some p) := fun y mem => by
      rw [lapseZone_zones_other p s fun same => fresh (by rw [← same]; exact mem)]
      exact owns y (List.mem_cons_of_mem z mem)
    have routing : (State.lapseZone p s z).routing = s.routing := by rw [lapseZone_frame]
    rw [List.foldl_cons, ih nodup _ later, lapseZone_notices, routing, List.any_cons, owns z List.mem_cons_self,
      Bool.or_assoc, ← Bool.and_or_distrib_left]

/-- The zones' part in a lapse counts every zone that the port owns once under ZONE LAPSES. -/
theorem State.lapseZones_counters (p : Port) (mine : ZoneNo → Bool) (l : List ZoneNo) (nodup : l.Nodup) (s : State)
    (owns : ∀ z ∈ l, mine z = decide (s.zones[z].owner = some p)) (j : CounterNo) :
    (l.foldl (State.lapseZone p) s).counters[j] =
      Counter.bump^[l.countP fun z => mine z && s.counters[j].counts .zoneLapses (some p) (some z)] s.counters[j] := by
  rw [← foldl_bump mine]
  induction l generalizing s with
  | nil => rfl
  | cons z zs ih =>
    obtain ⟨fresh, nodup⟩ := List.nodup_cons.1 nodup
    have later : ∀ y ∈ zs, mine y = decide ((State.lapseZone p s z).zones[y].owner = some p) := fun y mem => by
      rw [lapseZone_zones_other p s fun same => fresh (by rw [← same]; exact mem)]
      exact owns y (List.mem_cons_of_mem z mem)
    rw [List.foldl_cons, ih nodup _ later, lapseZone_counters, List.foldl_cons, owns z List.mem_cons_self]

/-! ### The lapse of a port (R50) -/

theorem State.lapseHold_notices (s : State) (p q : Port) (k : NoticeKind) :
    ((s.lapseHold p).notices.get q)[k.index] = ((s.notices.get q)[k.index] ||
      (decide (k = .hold) && (s.routing[k.index]).get q && decide (s.hold.holder = some p))) := by
  unfold lapseHold endHold
  split
  · rename_i held
    rw [decide_eq_true held, Bool.and_true]
    exact raise_get_routed _ _ _ _
  · rename_i other
    rw [decide_eq_false other, Bool.and_false, Bool.or_false]

theorem State.lapseSlot_notices (s : State) (p q : Port) (k : NoticeKind) :
    ((s.lapseSlot p).notices.get q)[k.index] = ((s.notices.get q)[k.index] ||
      (decide (k = .handover) && (s.routing[k.index]).get q &&
        decide (s.slot.state = .posted ∧ s.slot.poster = some p))) := by
  unfold lapseSlot
  split
  · rename_i posted
    rw [decide_eq_true posted, Bool.and_true]
    exact raise_get_routed _ _ _ _
  · rename_i other
    rw [decide_eq_false other, Bool.and_false, Bool.or_false]

/-- The notices of a lapse: LAPSE, HOLD and HANDOVER as far as they apply, and LINK. -/
theorem State.lapse_notices (s : State) (p q : Port) (k : NoticeKind) :
    ((s.lapse p).notices.get q)[k.index] = ((s.notices.get q)[k.index] || ((s.routing[k.index]).get q && match k with
      | .link => true
      | .lapse => (List.finRange 64).any fun z => s.zones[z].owner = some p
      | .hold => decide (s.hold.holder = some p)
      | .handover => decide (s.slot.state = .posted ∧ s.slot.poster = some p)
      | .alarm | .horn | .failure | .watch | .fault | .test => false)) := by
  have zones := State.lapseZones_notices p (fun z => s.zones[z].owner = some p) (List.finRange 64)
    (List.nodup_finRange 64) s (fun _ _ => rfl) q k
  have frame := State.lapseZones_frame p (List.finRange 64) s
  unfold lapse
  generalize (List.finRange 64).foldl (State.lapseZone p) s = u at zones frame ⊢
  generalize (List.finRange 64).any (fun z => decide (s.zones[z].owner = some p)) = owned at zones ⊢
  have same : u.routing = s.routing ∧ u.hold = s.hold ∧ u.slot = s.slot := by
    rw [frame]
    exact ⟨rfl, rfl, rfl⟩
  obtain ⟨routing, hold, slot⟩ := same
  have routing' : ((u.lapseHold p).lapseSlot p).routing = u.routing := by rw [lapseSlot_frame, lapseHold_frame]
  have routing'' : (u.lapseHold p).routing = u.routing := by rw [lapseHold_frame]
  have slot' : (u.lapseHold p).slot = u.slot := by rw [lapseHold_frame]
  rw [raise_get, lapseSlot_notices, lapseHold_notices, zones, routing', routing'', slot', routing, hold, slot]
  cases k <;> simp

theorem State.lapse_counters (s : State) (p : Port) (j : CounterNo) : (s.lapse p).counters[j] =
    Counter.bump^[(List.finRange 64).countP fun z =>
      decide (s.zones[z].owner = some p) && s.counters[j].counts .zoneLapses (some p) (some z)] s.counters[j] := by
  rw [← State.lapseZones_counters p (fun z => s.zones[z].owner = some p) (List.finRange 64) (List.nodup_finRange 64) s
    (fun _ _ => rfl) j]
  unfold lapse
  generalize (List.finRange 64).foldl (State.lapseZone p) s = u
  rw [raise_frame, lapseSlot_frame, lapseHold_frame]

/-! ### The expiry of a silence timer (R48) -/

theorem exec_silenceTimerExpiry {s : State} {p : Port} (awake : s.resetAsserted = false)
    (runs : (s.links.get p).timer.isSome) : exec (.silenceTimerExpiry p) s = .next
      (if (s.links.get p).state = .live ∧ (s.links.get p).expired.state = .silent then
        (s.setLink p (s.links.get p).expired).lapse p else s.setLink p (s.links.get p).expired) := by
  show execSilenceTimerExpiry p s = _
  unfold execSilenceTimerExpiry
  dsimp only
  rw [if_neg]
  rintro (reset | stopped)
  · rw [awake] at reset
    cases reset
  · rw [stopped] at runs
    cases runs

/-- A LIVE link goes SILENT exactly with an allowance count of 0 or below. -/
theorem LinkRecord.expired_silent {l : LinkRecord} : l.state = .live ∧ l.expired.state = .silent ↔
    l.state = .live ∧ l.allowance ≤ 0 := by
  refine and_congr_right fun live => ?_
  unfold expired
  dsimp only
  split
  · rw [live]
    exact iff_of_false (fun h => by cases h) (by omega)
  · exact iff_of_true rfl (by omega)

theorem LinkRecord.expired_eq (l : LinkRecord) : l.expired =
    { state := if l.allowance > 0 then l.state else .silent
      timer := some l.timeout
      timeout := l.timeout
      allowance := if l.allowance > -128 then l.allowance - 1 else l.allowance
      saturated := l.saturated || decide (l.allowance ≤ -128) } := by
  unfold expired
  by_cases above : l.allowance > -128
  · simp only [if_pos above, decide_eq_false (by omega : ¬ l.allowance ≤ -128), Bool.or_false]
  · simp only [if_neg above, decide_eq_true (by omega : l.allowance ≤ -128), Bool.or_true]

/-- Settles O32, by the lapse of a port where the link goes SILENT and by the link record alone where it does not. -/
theorem silenceTimerExpirySpendsOrLapses : Obligations.SilenceTimerExpirySpendsOrLapses := by
  intro s p awake runs l dies mine
  rw [exec_silenceTimerExpiry awake runs, if_congr LinkRecord.expired_silent rfl rfl, LinkRecord.expired_eq]
  by_cases spent : dies
  · rw [if_pos spent, State.lapse_setLink]
    have frame := State.lapse_frame s p
    have zones := State.lapse_zones s p
    have hold := State.lapse_hold s p
    have slot := State.lapse_slot s p
    have notices := State.lapse_notices s p
    have counters := State.lapse_counters s p
    generalize s.lapse p = u at *
    refine ⟨_, rfl, ?_, fun lives => absurd spent lives, fun _ => ⟨?_, ?_, hold, slot, notices, counters⟩⟩
    · show u.links.set p _ = _
      rw [frame]
    · rw [frame]
      rfl
    · exact fun z => (zones z).trans (if_congr decide_eq_true_iff.symm rfl rfl)
  · rw [if_neg spent]
    exact ⟨_, rfl, rfl, fun _ => rfl, fun h => absurd h spent⟩

end Sys2Proof.Machine
end
